-- ==== Sys2Proof/Word.lean ====
section
/-! DEFINITION. The word types of the FDC1 Frame Assembler (00_scope.md R8, R10; 30_encoding.md R60, R66). -/

namespace Sys2Proof

/-- A byte: 8 bits, unsigned, bit 7 the most significant (R8, R10). -/
abbrev Byte := BitVec 8

/-- A 16-bit decoded field output (R66). -/
abbrev Half := BitVec 16

/-- The command input `cmd[9:0]` (R60). -/
abbrev CmdWord := BitVec 10

/-- A frame: `N = 22` bytes, positions 0 to 21 (R8). -/
abbrev Frame := Vector Byte 22

/-- The all-zero frame, `FRM`'s value after reset (R33). -/
def zeroFrame : Frame := Vector.replicate 22 0

end Sys2Proof
end

