-- ==== Sys2Proof/Config/ParamSet.lean ====
section
/-! DEFINITION. The parameters of 00_scope.md R7, as a host writes them down, and the test configurations of
95_test_vectors.md. -/

namespace Sys2Proof

/-- `CKS_KIND` (R7). -/
inductive ChecksumKind where
  | sum8
  | crc8
deriving DecidableEq, Repr

/-- `LAST_MARKER_RULE` (R7, R86). -/
inductive LastMarkerRule where
  | restart
  | asChecksum
deriving DecidableEq, Repr

/-- `FIELD_ORDER` (R7, R44). -/
inductive FieldOrder where
  | be
  | le
deriving DecidableEq, Repr

/-- The domain {1, 2} of the widths `W_SPD` and `W_V` (R7). -/
inductive FieldWidth where
  | one
  | two
deriving DecidableEq, Repr

/-- The width as a number of bytes. -/
def FieldWidth.bytes : FieldWidth → Nat
  | .one => 1
  | .two => 2

/-- A parameter set of R7 before the checks of R9: numbers are plain, so that an ill-formed set can be written. -/
structure ParamSet where
  /-- `MARKER` -/
  marker : Nat
  /-- `CKS_KIND` -/
  cksKind : ChecksumKind
  /-- `CKS_END`, the exclusive end of the checksum span -/
  cksEnd : Nat
  /-- `CRC_POLY` -/
  crcPoly : Nat
  /-- `CRC_INIT` -/
  crcInit : Nat
  /-- `CRC_REFLECT` -/
  crcReflect : Bool
  /-- `CRC_XOROUT` -/
  crcXorOut : Nat
  /-- `LAST_MARKER_RULE` -/
  lastMarkerRule : LastMarkerRule
  /-- `GAP_T`, 0 when the gap timeout is disabled -/
  gapT : Nat
  /-- `FIELD_ORDER` -/
  fieldOrder : FieldOrder
  /-- `OFF_RPM` -/
  offRpm : Nat
  /-- `OFF_MA` -/
  offMa : Nat
  /-- `OFF_ERR` -/
  offErr : Nat
  /-- `MODE_OFF` -/
  modeOff : Nat
  /-- `MODE_BIT` -/
  modeBit : Nat
  /-- `MODE_POL` -/
  modePol : Nat
  /-- `OFF_SPDMIN` -/
  offSpdMin : Nat
  /-- `OFF_SPDMAX` -/
  offSpdMax : Nat
  /-- `W_SPD` -/
  wSpd : FieldWidth
  /-- `OFF_VIN[0..2]` -/
  offVin : Vector Nat 3
  /-- `OFF_VOUT[0..2]` -/
  offVout : Vector Nat 3
  /-- `W_V` -/
  wV : FieldWidth
  /-- `OFF_MODEBYTE` -/
  offModeByte : Nat
  /-- `NUM_CHANNELS` (host) -/
  numChannels : Nat
  /-- `MAX_FEEDS_PER_TICK` (host); its type holds R7's upper end 65535 (log entry 9) -/
  maxFeedsPerTick : BitVec 16
  /-- `FRAMING_COUNTS` (host) -/
  framingCounts : Bool
deriving DecidableEq, Repr

/-- TC0 of 95_test_vectors.md, for testing only and no claim about the device (D26); the host parameters, which TC0
does not list, are those of program P7. -/
def ParamSet.tc0 : ParamSet where
  marker := 0xAA
  cksKind := .sum8
  cksEnd := 21
  crcPoly := 0x07
  crcInit := 0
  crcReflect := false
  crcXorOut := 0
  lastMarkerRule := .restart
  gapT := 0
  fieldOrder := .be
  offRpm := 1
  offMa := 3
  offErr := 5
  modeOff := 6
  modeBit := 0
  modePol := 1
  offSpdMin := 7
  offSpdMax := 9
  wSpd := .two
  offVin := #v[11, 13, 15]
  offVout := #v[12, 14, 16]
  wV := .one
  offModeByte := 6
  numChannels := 1
  maxFeedsPerTick := 8
  framingCounts := false

/-- TC1: the CRC8 checksum. -/
def ParamSet.tc1 : ParamSet := { ParamSet.tc0 with cksKind := .crc8 }

/-- TC2: the gap timeout at three ticks. -/
def ParamSet.tc2 : ParamSet := { ParamSet.tc0 with gapT := 3 }

/-- TC3: a marker as the 22nd byte is the checksum. -/
def ParamSet.tc3 : ParamSet := { ParamSet.tc0 with lastMarkerRule := .asChecksum }

/-- TC4: the losing checksum span of 90_conflicts.md C1. -/
def ParamSet.tc4 : ParamSet := { ParamSet.tc0 with cksEnd := 20 }

end Sys2Proof
end

