-- ==== Sys2Proof/Syntax.lean ====
section
/-! DEFINITION. The five instructions of spec/opcode_table.json. -/

namespace Sys2Proof

/-- One input of a step (00_scope.md R12). The ignored `DATA` bits of NOP, TICK and the reserved command are no
operand (30_encoding.md R62), so these constructors carry none (log entry 18). -/
inductive Instr where
  /-- NOP (43_tick_nop.md R133) -/
  | nop
  /-- FEED b (40_feed.md R80) -/
  | feed (b : Byte)
  /-- TICK (43_tick_nop.md R130) -/
  | tick
  /-- RSVD, the reserved command `OP = 11` (43_tick_nop.md R134) -/
  | rsvd
  /-- RESET, a step with `rst = 1` (70_reset_and_hazards.md R180) -/
  | reset
deriving DecidableEq, Repr

end Sys2Proof
end

