-- ==== Sys2Proof/WellFormed.lean ====
section
/-! DEFINITION. Well-formedness: which command a conforming host issues (30_encoding.md R63), and the eight checks
of a parameter set (00_scope.md R9), with `Params`, a set that passes them all. -/

namespace Sys2Proof

/-- A conforming host never issues the reserved command (R63). -/
def Instr.wellFormed : Instr → Bool
  | .rsvd => false
  | .nop => true
  | .feed _ => true
  | .tick => true
  | .reset => true

/-- The named checks of R9. -/
inductive ParamCheck where
  /-- WF_MARKER -/
  | marker
  /-- WF_CKS -/
  | cks
  /-- WF_CRC -/
  | crc
  /-- WF_GAP -/
  | gap
  /-- WF_FIELD -/
  | field
  /-- WF_OVERLAP -/
  | overlap
  /-- WF_MODE -/
  | mode
  /-- WF_HOST -/
  | host
deriving DecidableEq, Repr

/-- Every check, in R9's order. -/
def ParamCheck.all : List ParamCheck := [.marker, .cks, .crc, .gap, .field, .overlap, .mode, .host]

namespace ParamSet

/-- Offset and width of each default-mode field (30_encoding.md R68). -/
def defaultFields (p : ParamSet) : List (Nat × Nat) :=
  [(p.offRpm, 2), (p.offMa, 2), (p.offErr, 1)]

/-- Offset and width of each settings-mode field (30_encoding.md R69). -/
def settingsFields (p : ParamSet) : List (Nat × Nat) :=
  [(p.offSpdMin, p.wSpd.bytes), (p.offSpdMax, p.wSpd.bytes),
   (p.offVin[0], p.wV.bytes), (p.offVin[1], p.wV.bytes), (p.offVin[2], p.wV.bytes),
   (p.offVout[0], p.wV.bytes), (p.offVout[1], p.wV.bytes), (p.offVout[2], p.wV.bytes),
   (p.offModeByte, 1)]

/-- The field `[off, off + w - 1]` lies within positions 1..20. -/
def inPayload (f : Nat × Nat) : Bool := decide (1 ≤ f.1 ∧ f.1 + f.2 ≤ 21)

/-- The two fields share no position. -/
def apart (f g : Nat × Nat) : Bool := decide (f.1 + f.2 ≤ g.1 ∨ g.1 + g.2 ≤ f.1)

/-- No two fields of the list share a position. -/
def pairwiseApart : List (Nat × Nat) → Bool
  | [] => true
  | f :: fs => fs.all (apart f) && pairwiseApart fs

/-- Whether the set passes a check of R9. -/
def passes (p : ParamSet) : ParamCheck → Bool
  | .marker => decide (p.marker < 256)
  | .cks => decide (p.cksEnd = 20 ∨ p.cksEnd = 21)
  | .crc =>
    match p.cksKind with
    | .sum8 => true
    | .crc8 => decide (p.crcPoly < 256 ∧ p.crcInit < 256 ∧ p.crcXorOut < 256 ∧ p.crcPoly % 2 = 1)
  | .gap => decide (p.gapT = 0 ∨ (2 ≤ p.gapT ∧ p.gapT ≤ 65535))
  | .field => p.defaultFields.all inPayload && p.settingsFields.all inPayload
  | .overlap => pairwiseApart p.defaultFields && pairwiseApart p.settingsFields
  | .mode => decide (1 ≤ p.modeOff ∧ p.modeOff ≤ 20 ∧ p.modeBit ≤ 7 ∧ p.modePol ≤ 1)
  | .host => decide ((p.numChannels = 1 ∨ p.numChannels = 2) ∧ 1 ≤ p.maxFeedsPerTick.toNat)

/-- Every check holds (R9). -/
def wellFormed (p : ParamSet) : Bool := ParamCheck.all.all p.passes

/-- The first check that fails, if any. -/
def firstFailing (p : ParamSet) : Option ParamCheck := ParamCheck.all.find? (fun c => !p.passes c)

end ParamSet

/-- A parameter set all of whose checks hold: what an instance of the block is built with (R9, R183). The default
value serves only to show that there is one. -/
structure Params where
  set : ParamSet := ParamSet.tc0
  wf : set.wellFormed = true := by decide
deriving DecidableEq, Repr, Inhabited

/-- A set no check of which fails is well-formed. -/
theorem ParamSet.wellFormed_of_firstFailing_eq_none {p : ParamSet} (h : p.firstFailing = none) :
    p.wellFormed = true := by
  simpa [ParamSet.wellFormed, ParamSet.firstFailing] using h

/-- The well-formed set, or the check it fails (R9). -/
def ParamSet.check (p : ParamSet) : Except ParamCheck Params :=
  match h : p.firstFailing with
  | some c => .error c
  | none => .ok ⟨p, ParamSet.wellFormed_of_firstFailing_eq_none h⟩

end Sys2Proof
end

