-- ==== Sys2Proof/Machine/Checksum.lean ====
section
/-! DEFINITION. The checksum validator (41_checksum.md R100 to R104). -/

namespace Sys2Proof.Machine

/-- A parameter that R9 keeps to a byte, as a byte. -/
def asByte (n : Nat) : Byte := BitVec.ofNat 8 n

/-- The byte at a frame position (R10); positions past 21 do not exist and no rule reads one (log entry 22). -/
def byteAt (f : Frame) (k : Nat) : Byte := f[k]?.getD 0

/-- SUM8: the bytes added, carries out of bit 7 discarded (R101). -/
def sum8 (ds : List Byte) : Byte := ds.foldl (fun acc d => acc + d) 0

/-- `rev8`: the bit order of a byte reversed (R102). -/
def rev8 (x : Byte) : Byte := x.reverse

/-- One of the eight shifts of R102. -/
def crcShift (poly c : Byte) : Byte :=
  if c.msb then (c <<< 1) ^^^ poly else c <<< 1

/-- Eight shifts. -/
def crcShift8 (poly c : Byte) : Byte := (crcShift poly)^[8] c

/-- The input byte as R102 takes it in, reversed when `CRC_REFLECT` holds. -/
def crcReflected (reflect : Bool) (x : Byte) : Byte := if reflect then rev8 x else x

/-- One byte taken into the CRC register (R102). -/
def crcByte (poly : Byte) (reflect : Bool) (c d : Byte) : Byte :=
  crcShift8 poly (c ^^^ crcReflected reflect d)

/-- CRC8 (R102). -/
def crc8 (poly init : Byte) (reflect : Bool) (xorOut : Byte) (ds : List Byte) : Byte :=
  crcReflected reflect (ds.foldl (crcByte poly reflect) init) ^^^ xorOut

/-- The checksum of a span by `CKS_KIND` (R100). -/
def cksSpan (p : Params) (ds : List Byte) : Byte :=
  match p.set.cksKind with
  | .sum8 => sum8 ds
  | .crc8 =>
    crc8 (asByte p.set.crcPoly) (asByte p.set.crcInit) p.set.crcReflect (asByte p.set.crcXorOut) ds

/-- `CKS` of a frame: over positions `0 .. CKS_END-1`, in position order (R100). -/
def cks (p : Params) (f : Frame) : Byte := cksSpan p (f.toList.take p.set.cksEnd)

/-- The frame's checksum byte, position 21 (R67). -/
def checksumByte (f : Frame) : Byte := byteAt f 21

/-- The validator's comparison of 8-bit values (R104). -/
def checksumMatches (p : Params) (f : Frame) : Bool := cks p f == checksumByte f

end Sys2Proof.Machine
end

