-- ==== Sys2Proof/Config.lean ====
section
/-! DEFINITION. What one implementation fixes and what the spec leaves free. The opaque constants have no value a
proof can see. -/

namespace Sys2Proof

/-- The parameters of the one instance that `State.reset` starts: nothing is known of them but that R9's checks
hold (DESIGN CHOICE, log entry 2). -/
opaque Config.openParams : Params

/-- The byte at a position of `BUF` after the n-th reset, which the spec leaves unspecified (10_state.md R33, U4; log entry 7):
a free value, read by no rule before FEED writes the position (R27). DESIGN CHOICE, unsafe (log entry 7): it is indexed by
the count of resets and the position alone, so it is one and the same in every instance and every run. -/
opaque Config.unspecifiedByte : Nat → Nat → Byte

/-- The four values R7 states hold beside any well-formed choice of the others. -/
theorem ParamSet.withSpecValues_wellFormed {p : ParamSet} (h : p.wellFormed = true) :
    ParamSet.wellFormed
      { p with cksEnd := 21, lastMarkerRule := .restart, gapT := 0, framingCounts := false } = true := by
  simp only [ParamSet.wellFormed, ParamCheck.all, List.all_cons, List.all_nil, Bool.and_true,
    Bool.and_eq_true] at h ⊢
  exact ⟨h.1, by simp [ParamSet.passes], h.2.2.1, by simp [ParamSet.passes], h.2.2.2.2⟩

/-- The parameters at `State.reset`: CKS_END, LAST_MARKER_RULE, GAP_T and FRAMING_COUNTS at the values R7 states,
every OPEN parameter free (log entry 2). -/
def Config.params : Params where
  set := { Config.openParams.set with
    cksEnd := 21, lastMarkerRule := .restart, gapT := 0, framingCounts := false }
  wf := ParamSet.withSpecValues_wellFormed Config.openParams.wf

end Sys2Proof
end

