-- ==== Sys2Proof/Decode.lean ====
section
/-! DEFINITION. The decoder, total on both input ports (30_encoding.md R60 to R63), the encoder (R62, R72), and the
numbering of an input as one word (log entry 5). -/

namespace Sys2Proof

/-- What one step samples: `rst` and `cmd[9:0]` (R60). -/
structure Ports where
  rst : Bool
  cmd : CmdWord
deriving DecidableEq, Repr

/-- `OP = cmd[9:8]` (R60). -/
def opField (w : CmdWord) : BitVec 2 := w.extractLsb' 8 2

/-- `DATA = cmd[7:0]` (R60), FEED's operand as it is (R62). -/
def dataField (w : CmdWord) : Byte := w.extractLsb' 0 8

/-- The command selector (R61), total on all 1024 words. -/
def decodeCmd (w : CmdWord) : Instr :=
  if opField w = 0b00#2 then .nop
  else if opField w = 0b01#2 then .feed (dataField w)
  else if opField w = 0b10#2 then .tick
  else .rsvd

/-- The instruction a step runs: with `rst = 1` a reset, whatever `cmd` holds (R60). -/
def decode (x : Ports) : Instr :=
  if x.rst then .reset else decodeCmd x.cmd

/-- `cmd = OP || DATA` (R60, D2). -/
def cmdWord (op : BitVec 2) (data : Byte) : CmdWord := op ++ data

/-- The input that stands for an instruction; ignored bits are written as 0 (R62). -/
def encode : Instr → Ports
  | .nop => ⟨false, cmdWord 0b00#2 0⟩
  | .feed b => ⟨false, cmdWord 0b01#2 b⟩
  | .tick => ⟨false, cmdWord 0b10#2 0⟩
  | .rsvd => ⟨false, cmdWord 0b11#2 0⟩
  | .reset => ⟨true, 0⟩

/-- Why a number is no input of the block. -/
inductive DecodeError where
  /-- a bit above `rst` is set (log entry 5) -/
  | unusedBits (w : Nat)
deriving DecidableEq, Repr

/-- An input numbered as one word: `cmd` in bits 9..0, `rst` in bit 10 (log entry 5). -/
def portsOfWord (w : Nat) : Except DecodeError Ports :=
  if w < 2048 then .ok ⟨decide (1024 ≤ w), BitVec.ofNat 10 w⟩ else .error (.unusedBits w)

/-- The word of an input, `rst || cmd`. -/
def wordOfPorts (x : Ports) : Nat := (if x.rst then 1024 else 0) + x.cmd.toNat

/-- The decoder on one word: total on every number, refusing by name a word that is no input. -/
def decodeWord (w : Nat) : Except DecodeError Instr :=
  match portsOfWord w with
  | .ok x => .ok (decode x)
  | .error e => .error e

/-- The word of an instruction (R72). -/
def encodeWord (i : Instr) : Nat := wordOfPorts (encode i)

/-- The instruction the decoder reads from the table's bits `w` of a row of `nbits` bits; every command is one word
long (R60), so nothing follows. -/
def decodeTableWord (nbits w : Nat) : Option Instr :=
  match decodeWord (w % 2 ^ nbits) with
  | .ok i => some i
  | .error _ => none

end Sys2Proof
end

