-- ==== Sys2Proof/Machine/State.lean ====
section
/-! DEFINITION. The state of one instance of the block (10_state.md R20), with the model's own fields beside it, the
reasons a step can stop, and the state after reset (R33). -/

namespace Sys2Proof.Machine

/-- `ST` (10_state.md R21). -/
inductive SyncState where
  | hunt
  | collect
deriving DecidableEq, Repr

/-- The event of a step (30_encoding.md R64); no other code is ever emitted (R65). -/
inductive Event where
  | none
  | valid
  | errChecksum
  | errFramingMarker
  | errFramingTimeout
deriving DecidableEq, Repr

/-- One instance of the block. `params`, `ev`, `inputs` and `freeCount` are the model's own fields: the configuration
(R34; log entry 1), the output `ev` of the step just ended (R32; log entry 3), the inputs the host will present
(R60; log entry 4), and a count of the free values drawn (log entry 7). -/
structure State where
  /-- the configuration (00_scope.md R7), static (R184) -/
  params : Params
  /-- `ST` (R21) -/
  st : SyncState
  /-- `IDX` (R22) -/
  idx : BitVec 5
  /-- `BUF[0..21]` (R23) -/
  buf : Frame
  /-- `FRM[0..21]` (R24) -/
  frm : Frame
  /-- `FRM_VALID` (R25) -/
  frmValid : Bool
  /-- `GAP` (R26) -/
  gap : BitVec 16
  /-- the output `ev` of the last step (R64) -/
  ev : Event
  /-- what `rst` and `cmd` will hold in the coming steps, the next one first -/
  inputs : List Ports
  /-- how many unspecified values have been drawn -/
  freeCount : Nat
deriving DecidableEq, Repr

/-- What stops a run. The block itself has no traps (60_exceptions.md R160). -/
inductive Fault where
  /-- Raised by `step` alone, when the host has presented no input: a step takes exactly one (R12). Safe: the block
  holds its state between commands (R171), and the model claims nothing of such a step (log entry 4). -/
  | noInput
deriving DecidableEq, Repr

/-- What has no meaning. -/
inductive Refusal where
  /-- Raised by an arm of `exec` whose instruction has no meaning yet; no arm is left so. Safe. -/
  | notModelled (mnemonic : String)
  /-- Raised by the reserved command, `refuse(reserved_command)` (43_tick_nop.md R134). Safe. -/
  | reservedCommand
  /-- Raised by `bringUp` for a parameter set that fails the named check of 00_scope.md R9. Safe. -/
  | illFormedParameters (check : ParamCheck)
  /-- Raised by `System.bringUp` for channels that are none of the topologies of 45_host_interface.md R147. Safe (log
  entry 14). -/
  | illFormedTopology
deriving DecidableEq, Repr

/-- The state right after reset (R33) of an instance with the given parameters. `BUF`, unspecified there, is written
out as zero (DESIGN CHOICE, log entry 6); no input is waiting (log entry 4). -/
def State.resetWith (p : Params) : State where
  params := p
  st := .hunt
  idx := 0
  buf := zeroFrame
  frm := zeroFrame
  frmValid := false
  gap := 0
  ev := .none
  inputs := []
  freeCount := 0

/-- The state right after reset, for the parameters of `Config.params` (log entry 2). -/
def State.reset : State := State.resetWith Config.params

end Sys2Proof.Machine
end

