-- ==== Sys2Proof/Machine/Ops.lean ====
section
/-! DEFINITION. The named operations on the state that the instructions share. The block has no memory and no
registers a command names (10_state.md R28, 20_memory.md R40) and takes no exception (60_exceptions.md R160, R165):
an error is the event of its step (`State.emit`) and, where it ends a frame, the return to HUNT
(`State.returnToHunt`) or the restart (`State.startFrame`). -/

namespace Sys2Proof.Machine

/-- `MARKER` (R7). -/
def markerByte (p : Params) : Byte := asByte p.set.marker

/-- `emit E`: sets the event of the step (00_scope.md R11). -/
def State.emit (e : Event) (s : State) : State := { s with ev := e }

/-- `BUF[0] <- b ; IDX <- 1 ; ST <- COLLECT ; GAP <- 0`: a frame begins with `b` at position 0 (40_feed.md R82, R84). -/
def State.startFrame (b : Byte) (s : State) : State :=
  { s with buf := s.buf.set 0 b, idx := 1, st := .collect, gap := 0 }

/-- `BUF[IDX] <- b ; IDX <- IDX + 1 ; GAP <- 0` (R83). -/
def State.storeByte (b : Byte) (s : State) : State :=
  { s with buf := s.buf.setIfInBounds s.idx.toNat b, idx := s.idx + 1, gap := 0 }

/-- `BUF[21] <- b` (R85). -/
def State.storeLast (b : Byte) (s : State) : State := { s with buf := s.buf.set 21 b }

/-- `FRM <- BUF ; FRM_VALID <- 1`, all 22 bytes in one step (R88). -/
def State.latchFrame (s : State) : State := { s with frm := s.buf, frmValid := true }

/-- `ST <- HUNT ; IDX <- 0 ; GAP <- 0`: the end of a frame, whether completed, discarded or timed out (R85, R130). -/
def State.returnToHunt (s : State) : State := { s with st := .hunt, idx := 0, gap := 0 }

/-- `GAP <- GAP + 1` (43_tick_nop.md R130). -/
def State.countTick (s : State) : State := { s with gap := s.gap + 1 }

/-- The unspecified contents of `BUF` after the n-th reset (R33; log entry 7). DESIGN CHOICE, unsafe (log entry 7): the spec
leaves them unspecified for each instance by itself, and here two instances (or two runs) with equal `freeCount` draw the
same bytes. -/
def unspecifiedBuf (n : Nat) : Frame := Vector.ofFn (fun k => Config.unspecifiedByte n k.val)

/-- Every state element of R20 at its reset value (R33, R181), `BUF` at a free value; the configuration and the
inputs to come are not state of the block (R34). -/
def State.resetBlock (s : State) : State :=
  { s with
    st := .hunt, idx := 0, gap := 0, frm := zeroFrame, frmValid := false,
    buf := unspecifiedBuf s.freeCount, freeCount := s.freeCount + 1 }

/-- Bring-up (70_reset_and_hazards.md R183): the parameters are fixed so that every check of R9 passes, then the
block is reset; a set that fails a check is refused (R9, U7, U8). -/
def bringUp (p : ParamSet) : Host.Outcome State Fault Refusal :=
  match p.check with
  | .ok q => .next (State.resetWith q)
  | .error c => .refused (.illFormedParameters c)

/-- The state an outcome goes on with, if it goes on. -/
def nextState? : Host.Outcome State Fault Refusal → Option State
  | .next t => some t
  | .fault _ => none
  | .refused _ => none

end Sys2Proof.Machine
end

