-- ==== Sys2Proof/Machine/Feed.lean ====
section
/-! DEFINITION. FEED, the synchronizer and assembler (40_feed.md R80 to R89). -/

namespace Sys2Proof.Machine

/-- In COLLECT, a byte that abandons the frame held: a marker at `IDX <= 20`, or at any index under RESTART (R84, R86). -/
abbrev restarts (b : Byte) (s : State) : Prop :=
  b = markerByte s.params ∧ (s.idx.toNat ≤ 20 ∨ s.params.set.lastMarkerRule = .restart)

/-- R85: the 22nd byte; the frame is latched on a match and dropped otherwise, and the block hunts again (R87). -/
def completeFrame (b : Byte) (s : State) : State :=
  let s := s.storeLast b
  if checksumMatches s.params s.buf then s.latchFrame.returnToHunt.emit .valid
  else s.returnToHunt.emit .errChecksum

/-- R81, R82: a byte in HUNT. -/
def feedHunt (b : Byte) (s : State) : State :=
  if b = markerByte s.params then (s.startFrame b).emit .none else s.emit .none

/-- R83 to R86: a byte in COLLECT. -/
def feedCollect (b : Byte) (s : State) : State :=
  if restarts b s then
    (s.startFrame b).emit .errFramingMarker
  else if s.idx.toNat ≤ 20 then (s.storeByte b).emit .none
  else completeFrame b s

/-- FEED(b) (R80). -/
def feed (b : Byte) (s : State) : State :=
  match s.st with
  | .hunt => feedHunt b s
  | .collect => feedCollect b s

/-- The position of `BUF` that a FEED of `b` writes, if any (20_memory.md R41). -/
def feedPosition (b : Byte) (s : State) : Option Nat :=
  match s.st with
  | .hunt => if b = markerByte s.params then some 0 else none
  | .collect =>
    if restarts b s then some 0
    else if s.idx.toNat ≤ 20 then some s.idx.toNat
    else some 21

/-- The meaning of FEED: it never traps, refuses or stalls (R80, R89). -/
def execFeed (b : Byte) (s : State) : Host.Outcome State Fault Refusal := .next (feed b s)

end Sys2Proof.Machine
end

