-- ==== Sys2Proof/Machine/Reset.lean ====
section
/-! DEFINITION. RESET (70_reset_and_hazards.md R180, R181). -/

namespace Sys2Proof.Machine

/-- The meaning of RESET: every state element at its reset value, event NONE (R180). -/
def execReset (s : State) : Host.Outcome State Fault Refusal := .next (s.resetBlock.emit .none)

end Sys2Proof.Machine
end

