-- ==== Sys2Proof/Machine/TickNop.lean ====
section
/-! DEFINITION. TICK, NOP and the reserved command (43_tick_nop.md R130 to R134). -/

namespace Sys2Proof.Machine

/-- TICK (R130). The sum `GAP + 1` is taken exactly, so that nothing wraps (log entry 12). -/
def tick (s : State) : State :=
  if s.st = .collect ∧ s.params.set.gapT ≠ 0 then
    if s.params.set.gapT ≤ s.gap.toNat + 1 then s.returnToHunt.emit .errFramingTimeout
    else s.countTick.emit .none
  else s.emit .none

/-- The meaning of TICK. -/
def execTick (s : State) : Host.Outcome State Fault Refusal := .next (tick s)

/-- The meaning of NOP: `emit NONE`, no state is written (R133). -/
def execNop (s : State) : Host.Outcome State Fault Refusal := .next (s.emit .none)

/-- The meaning of the reserved command: `refuse(reserved_command)` (R134). -/
def execRsvd (_ : State) : Host.Outcome State Fault Refusal := .refused .reservedCommand

end Sys2Proof.Machine
end

