-- ==== Sys2Proof/Machine/Dispatch.lean ====
section
/-! DEFINITION. The one match over the instructions. -/

namespace Sys2Proof.Machine

/-- The meaning of an instruction. -/
def exec (i : Instr) (s : State) : Host.Outcome State Fault Refusal :=
  match i with
  | .nop => Sys2Proof.Machine.execNop s
  | .feed b => Sys2Proof.Machine.execFeed b s
  | .tick => Sys2Proof.Machine.execTick s
  | .rsvd => Sys2Proof.Machine.execRsvd s
  | .reset => Sys2Proof.Machine.execReset s

end Sys2Proof.Machine
end

