-- ==== Sys2Proof/Machine/Step.lean ====
section
/-! DEFINITION. One step: the inputs of the step are sampled, decoded and run (00_scope.md R12, 30_encoding.md R60). -/

namespace Sys2Proof.Machine

/-- One step takes the next input the host presents; with none presented there is no step (log entry 4). -/
def step (s : State) : Host.Outcome State Fault Refusal :=
  match s.inputs with
  | [] => .fault .noInput
  | x :: rest => exec (decode x) { s with inputs := rest }

/-- The state with the instruction of the table's bits `w` presented as the next input (log entry 4). A number that
is no input presents the reserved command. -/
def State.withFetchWord (s : State) (nbits w : Nat) : State :=
  match portsOfWord (w % 2 ^ nbits) with
  | .ok x => { s with inputs := x :: s.inputs }
  | .error _ => { s with inputs := encode .rsvd :: s.inputs }

end Sys2Proof.Machine
end

