-- ==== Sys2Proof/Machine/Trace.lean ====
section
/-! DEFINITION. A stream of commands, with the events it gives (20_memory.md R48: steps are totally ordered and events
are emitted in step order). -/

namespace Sys2Proof.Machine

/-- The events of a stream of commands, one a command, and the state after it; nothing where a command is refused. -/
def trace : List Instr → State → Option (List Event × State)
  | [], s => some ([], s)
  | i :: is, s =>
    match exec i s with
    | .next t => (trace is t).map (fun r => (t.ev :: r.1, r.2))
    | .fault _ => none
    | .refused _ => none

/-- FEED of each byte in order: the pseudo-instruction FEEDS (30_encoding.md R73). -/
def feeds (bs : List Byte) : List Instr := bs.map Instr.feed

/-- The bytes of a frame in wire order (20_memory.md R43). -/
def wire (f : Frame) : List Instr := feeds f.toList

/-- How many commands are FEEDs. -/
def feedCount : List Instr → Nat
  | [] => 0
  | .feed _ :: is => feedCount is + 1
  | .nop :: is => feedCount is
  | .tick :: is => feedCount is
  | .rsvd :: is => feedCount is
  | .reset :: is => feedCount is

end Sys2Proof.Machine
end

