-- ==== Sys2Proof/Machine/Assembler.lean ====
section
/-! DEFINITION. The command-stream syntax (30_encoding.md R72) and the pseudo-instructions (R73). -/

namespace Sys2Proof.Machine

/-- A line of a command stream: a command, or a pseudo-instruction of R73. -/
inductive Line where
  | command (i : Instr)
  /-- `FEEDS b1 ... bk` -/
  | feeds (bs : List Byte)
  /-- `FRAME p1 ... p20` -/
  | frame (payload : Vector Byte 20)
  /-- `FRAMEC p1 ... p20 c` -/
  | framec (payload : Vector Byte 20) (c : Byte)
  /-- `TICKS n` -/
  | ticks (n : Nat)
  /-- `IDLE n` -/
  | idle (n : Nat)
deriving DecidableEq, Repr

/-- The frame of a marker, 20 payload bytes and a checksum byte (R67). -/
def frameOf (p : Params) (payload : Vector Byte 20) (c : Byte) : Frame :=
  ⟨#[markerByte p] ++ payload.toArray ++ #[c], by simp⟩

/-- The checksum FRAME computes, over the span `0 .. CKS_END-1` (R73, R100). -/
def frameChecksum (p : Params) (payload : Vector Byte 20) : Byte := cks p (frameOf p payload 0)

/-- The expansions of R73. -/
def Line.expand (p : Params) : Line → List Instr
  | .command i => [i]
  | .feeds bs => Sys2Proof.Machine.feeds bs
  | .frame payload => wire (frameOf p payload (frameChecksum p payload))
  | .framec payload c => wire (frameOf p payload c)
  | .ticks n => List.replicate n .tick
  | .idle n => List.replicate n .nop

/-- A program's commands, line by line. -/
def assemble (p : Params) (ls : List Line) : List Instr := ls.flatMap (Line.expand p)

/-- What the host presents for a stream of commands. -/
def portsOf (is : List Instr) : List Ports := is.map encode

/-- A state with a stream of commands presented after the inputs already waiting. -/
def State.load (is : List Instr) (s : State) : State := { s with inputs := s.inputs ++ portsOf is }

/-- A hexadecimal digit, as R72 writes it. -/
def hexDigit (n : Nat) : Char := "0123456789ABCDEF".toList.getD n '0'

/-- A byte as `0xNN` (R10, R72). -/
def hexByte (b : Byte) : List Char := ['0', 'x', hexDigit (b.toNat / 16), hexDigit (b.toNat % 16)]

/-- A command as a line of text (R72); the reserved command has no spelling there. -/
def render : Instr → Option (List Char)
  | .nop => some "NOP".toList
  | .feed b => some ("FEED ".toList ++ hexByte b)
  | .tick => some "TICK".toList
  | .rsvd => none
  | .reset => some "RESET".toList

/-- The value of a hexadecimal digit; lower case is read too (log entry 20). -/
def hexValue (c : Char) : Option Nat :=
  if '0' ≤ c ∧ c ≤ '9' then some (c.toNat - 48)
  else if 'A' ≤ c ∧ c ≤ 'F' then some (c.toNat - 55)
  else if 'a' ≤ c ∧ c ≤ 'f' then some (c.toNat - 87)
  else none

/-- A line without its comment, which starts with `;` (R72). -/
def dropComment (line : List Char) : List Char := line.takeWhile (fun c => c != ';')

/-- A line without the blanks at its ends (log entry 20). -/
def trimLine (line : List Char) : List Char :=
  ((line.dropWhile (fun c => c == ' ')).reverse.dropWhile (fun c => c == ' ')).reverse

/-- One line of a command stream (R72), without its comment and its outer blanks. -/
def parseCommand (line : List Char) : Option Instr :=
  if line = "NOP".toList then some .nop
  else if line = "TICK".toList then some .tick
  else if line = "RESET".toList then some .reset
  else
    match line with
    | ['F', 'E', 'E', 'D', ' ', '0', 'x', a, b] =>
      match hexValue a, hexValue b with
      | some x, some y => some (.feed (BitVec.ofNat 8 (16 * x + y)))
      | _, _ => none
    | _ => none

/-- One line of text: no command where it is blank or only a comment, a command, or an error (`none`). -/
def parseLine (line : List Char) : Option (List Instr) :=
  match trimLine (dropComment line) with
  | [] => some []
  | c :: cs => (parseCommand (c :: cs)).map (fun i => [i])

end Sys2Proof.Machine
end

