-- ==== Sys2Proof/Machine/Flags.lean ====
section
/-! DEFINITION. The status outputs, the block's only flags (10_state.md R30), and the event code (30_encoding.md R64). -/

namespace Sys2Proof.Machine

/-- `in_sync = (ST = COLLECT)` (R30). -/
def inSync (s : State) : Bool := s.st == .collect

/-- `frm_valid = FRM_VALID` (R30). -/
def frmValidFlag (s : State) : Bool := s.frmValid

/-- The 3-bit code of an event (R64). -/
def Event.code : Event → BitVec 3
  | .none => 0b000#3
  | .valid => 0b001#3
  | .errChecksum => 0b010#3
  | .errFramingMarker => 0b011#3
  | .errFramingTimeout => 0b100#3

end Sys2Proof.Machine
end

