-- ==== Sys2Proof/Machine/Operands.lean ====
section
/-! DEFINITION. The operands the field decoder reads from a frame (42_decode.md R111, R112; 20_memory.md R44). FEED's
one operand, `cmd[7:0]`, is `dataField` of Decode.lean. -/

namespace Sys2Proof.Machine

/-- `zext_16` (00_scope.md R11). -/
def zext16 (x : Byte) : Half := x.setWidth 16

/-- `hi || lo` (R10). -/
def pair (hi lo : Byte) : Half := hi ++ lo

/-- `fld(off, w)`, unsigned (R111). -/
def fld (p : Params) (f : Frame) (off : Nat) (w : FieldWidth) : Half :=
  match w with
  | .one => zext16 (byteAt f off)
  | .two =>
    match p.set.fieldOrder with
    | .be => pair (byteAt f off) (byteAt f (off + 1))
    | .le => pair (byteAt f (off + 1)) (byteAt f off)

/-- Bit i of a byte (R10). -/
def bitOf (x : Byte) (i : Nat) : Nat := (x.getLsbD i).toNat

/-- A settings-mode frame: bit `MODE_BIT` of byte `MODE_OFF` equals `MODE_POL` (R70, R112). -/
def isSettings (p : Params) (f : Frame) : Bool :=
  bitOf (byteAt f p.set.modeOff) p.set.modeBit == p.set.modePol

end Sys2Proof.Machine
end

