-- ==== Sys2Proof/Machine/Outputs.lean ====
section
/-! DEFINITION. The field decoder (42_decode.md R110 to R115) and the output ports (30_encoding.md R66). -/

namespace Sys2Proof.Machine

/-- The decoded outputs of R66; both sets are always presented (R110, R115). -/
structure Decoded where
  /-- `dec_mode`, true for settings (R112) -/
  mode : Bool
  /-- `dec_rpm` -/
  rpm : Half
  /-- `dec_ma` -/
  ma : Half
  /-- `dec_err` -/
  err : Byte
  /-- `dec_spdmin` -/
  spdMin : Half
  /-- `dec_spdmax` -/
  spdMax : Half
  /-- `dec_vin[0..2]` -/
  vin : Vector Half 3
  /-- `dec_vout[0..2]` -/
  vout : Vector Half 3
  /-- `dec_modebyte` -/
  modeByte : Byte
deriving DecidableEq, Repr

/-- The decoded fields of a frame, a function of the frame and the parameters alone (R110; R112 to R114). -/
def decodeFields (p : Params) (f : Frame) : Decoded where
  mode := isSettings p f
  rpm := fld p f p.set.offRpm .two
  ma := fld p f p.set.offMa .two
  err := byteAt f p.set.offErr
  spdMin := fld p f p.set.offSpdMin p.set.wSpd
  spdMax := fld p f p.set.offSpdMax p.set.wSpd
  vin := #v[fld p f p.set.offVin[0] p.set.wV, fld p f p.set.offVin[1] p.set.wV, fld p f p.set.offVin[2] p.set.wV]
  vout := #v[fld p f p.set.offVout[0] p.set.wV, fld p f p.set.offVout[1] p.set.wV, fld p f p.set.offVout[2] p.set.wV]
  modeByte := byteAt f p.set.offModeByte

/-- The output ports of a step (R66). -/
structure Outputs where
  /-- `ev[2:0]` -/
  ev : BitVec 3
  /-- `in_sync` -/
  inSync : Bool
  /-- `frm_valid` -/
  frmValid : Bool
  /-- `frm[0..21]` -/
  frm : Frame
  /-- `dec_*` -/
  decoded : Decoded
deriving DecidableEq, Repr

/-- The outputs after a step (R66, R116); reading them changes nothing (20_memory.md R47). -/
def outputs (s : State) : Outputs where
  ev := s.ev.code
  inSync := inSync s
  frmValid := frmValidFlag s
  frm := s.frm
  decoded := decodeFields s.params s.frm

end Sys2Proof.Machine
end

