-- ==== Sys2Proof/Machine/Environment.lean ====
section
/-! DEFINITION. The block's environment, outside the block (00_scope.md R6) and outside `step`: the Byte Source, the feed
loop, the consumer's actions and the channels, as 45_host_interface.md specifies them (log entries 14 to 16). -/

namespace Sys2Proof.Machine

/-- The two kinds of Byte Source (R140). -/
inductive SourceKind where
  | hardware
  | software
deriving DecidableEq, Repr

/-- The Byte Source of a channel: what it has received and not yet given, oldest first, and what was written to it
(R140, R141). Its capacity is not in the source (70_reset_and_hazards.md R189); here it has no bound (DESIGN CHOICE,
unsafe, log entry 24). -/
structure ByteSource where
  kind : SourceKind
  pending : List Byte
  written : List Byte
deriving DecidableEq, Repr

/-- `available()` (R140). -/
def ByteSource.available (b : ByteSource) : Bool := !b.pending.isEmpty

/-- `read()`: the oldest byte, and the source without it (R140, R141). -/
def ByteSource.read (b : ByteSource) : Option (Byte × ByteSource) :=
  match b.pending with
  | [] => none
  | x :: xs => some (x, { b with pending := xs })

/-- `write(byte)` (R140); only the host calls it (R149). -/
def ByteSource.write (x : Byte) (b : ByteSource) : ByteSource := { b with written := b.written ++ [x] }

/-- A byte arrives from the line and is kept (R141). DESIGN CHOICE, unsafe (log entry 24): R189 says that the storage can
overflow and lose bytes and gives no capacity; this operation loses none, and a byte lost is one that is never received. -/
def ByteSource.receive (x : Byte) (b : ByteSource) : ByteSource := { b with pending := b.pending ++ [x] }

/-- SettingsSnapshot (R144; 30_encoding.md R69). -/
structure SettingsSnapshot where
  spdMin : Half
  spdMax : Half
  vin : Vector Half 3
  vout : Vector Half 3
  modeByte : Byte
deriving DecidableEq, Repr

/-- The part of Device State that R144 writes: the Accumulator with its reading count and error-status, the
SettingsSnapshot and CommsErrorCount. The counts have no width in the spec (log entry 15). -/
structure Consumer where
  totalRpm : Nat
  totalMa : Nat
  readingCount : Nat
  errorStatus : Byte
  settings : SettingsSnapshot
  commsErrorCount : Nat
deriving DecidableEq, Repr

/-- VALID with `dec_mode = 0` (R144). -/
def Consumer.addReading (d : Decoded) (c : Consumer) : Consumer :=
  { c with
    totalRpm := c.totalRpm + d.rpm.toNat, totalMa := c.totalMa + d.ma.toNat,
    readingCount := c.readingCount + 1, errorStatus := c.errorStatus ||| d.err }

/-- VALID with `dec_mode = 1` (R144). -/
def Consumer.takeSettings (d : Decoded) (c : Consumer) : Consumer :=
  { c with settings := ⟨d.spdMin, d.spdMax, d.vin, d.vout, d.modeByte⟩ }

/-- `increment CommsErrorCount` (R144). -/
def Consumer.countCommsError (c : Consumer) : Consumer := { c with commsErrorCount := c.commsErrorCount + 1 }

/-- What the consumer does with the event of a step, given the state after it (R144, R145). -/
def Consumer.act (s : State) (c : Consumer) : Consumer :=
  match s.ev with
  | .none => c
  | .valid =>
    let d := decodeFields s.params s.frm
    if d.mode then c.takeSettings d else c.addReading d
  | .errChecksum => c.countCommsError
  | .errFramingMarker => if s.params.set.framingCounts then c.countCommsError else c
  | .errFramingTimeout => if s.params.set.framingCounts then c.countCommsError else c

/-- One channel: its instance of the block, its consumer and its Byte Source (R3, R147). -/
structure Channel where
  block : State
  consumer : Consumer
  source : ByteSource
deriving DecidableEq, Repr

/-- The host issues one command and acts on its event in the same step (R144). -/
def Channel.issue (i : Instr) (ch : Channel) : Host.Outcome Channel Fault Refusal :=
  match exec i ch.block with
  | .next t => .next { ch with block := t, consumer := ch.consumer.act t }
  | .fault r => .fault r
  | .refused r => .refused r

/-- The host issues commands in order, acting on each event (R144). -/
def Channel.serve : List Instr → Channel → Host.Outcome Channel Fault Refusal
  | [], ch => .next ch
  | i :: is, ch =>
    match Channel.issue i ch with
    | .next ch' => Channel.serve is ch'
    | .fault r => .fault r
    | .refused r => .refused r

/-- The drain loop of R143: FEEDs while a byte is available, at most `n` of them (R142). -/
def Channel.drain : Nat → Channel → Host.Outcome Channel Fault Refusal
  | 0, ch => .next ch
  | n + 1, ch =>
    match ch.source.read with
    | none => .next ch
    | some (b, rest) =>
      match Channel.issue (.feed b) { ch with source := rest } with
      | .next ch' => Channel.drain n ch'
      | .fault r => .fault r
      | .refused r => .refused r

/-- One Dispatcher tick of a channel: one TICK, then the drain loop (R143). -/
def Channel.dispatcherTick (ch : Channel) : Host.Outcome Channel Fault Refusal :=
  match Channel.issue .tick ch with
  | .next ch' => Channel.drain ch'.block.params.set.maxFeedsPerTick.toNat ch'
  | .fault r => .fault r
  | .refused r => .refused r

/-- The commands of one Dispatcher tick of a channel, in order (R142, R143). -/
def tickCommands (maxFeeds : Nat) (pending : List Byte) : List Instr :=
  .tick :: feeds (pending.take maxFeeds)

/-- The channels of a host, in construction order (R147). -/
structure System where
  channels : List Channel
deriving DecidableEq, Repr

/-- The topologies of R147: one or two channels, at most one of them software, each built for that number. -/
def System.wellFormed (y : System) : Bool :=
  decide (1 ≤ y.channels.length ∧ y.channels.length ≤ 2) &&
  decide ((y.channels.filter (fun ch => ch.source.kind == .software)).length ≤ 1) &&
  y.channels.all (fun ch => ch.block.params.set.numChannels == y.channels.length)

/-- What a host fixes for one channel before the first command: the parameters of its instance, and the consumer and
the Byte Source it stands between, as they are (R147; 70_reset_and_hazards.md R183). -/
structure ChannelSetup where
  params : ParamSet
  consumer : Consumer
  source : ByteSource
deriving DecidableEq, Repr

/-- A channel whose instance is brought up and stands at reset (R183). -/
def ChannelSetup.bringUp (c : ChannelSetup) : Host.Outcome Channel Fault Refusal :=
  match Sys2Proof.Machine.bringUp c.params with
  | .next s => .next ⟨s, c.consumer, c.source⟩
  | .fault r => .fault r
  | .refused r => .refused r

/-- Every channel of a list brought up, in construction order. -/
def bringUpChannels : List ChannelSetup → Host.Outcome (List Channel) Fault Refusal
  | [] => .next []
  | c :: cs =>
    match c.bringUp with
    | .next ch =>
      match bringUpChannels cs with
      | .next chs => .next (ch :: chs)
      | .fault r => .fault r
      | .refused r => .refused r
    | .fault r => .fault r
    | .refused r => .refused r

/-- The start of a system: instances start together at reset (60_exceptions.md R169), each with its own parameters. A
parameter set that fails R9 is refused, and so are channels that are none of R147's topologies (log entry 14). -/
def System.bringUp (cs : List ChannelSetup) : Host.Outcome System Fault Refusal :=
  match bringUpChannels cs with
  | .next chs => if System.wellFormed ⟨chs⟩ then .next ⟨chs⟩ else .refused .illFormedTopology
  | .fault r => .fault r
  | .refused r => .refused r

/-- A command to the instance of one channel. No command reaches an instance that does not exist (R148), and no
other instance sees it (60_exceptions.md R169). -/
def System.issue (k : Nat) (i : Instr) (y : System) : Host.Outcome System Fault Refusal :=
  match y.channels[k]? with
  | none => .next y
  | some ch =>
    match Channel.issue i ch with
    | .next ch' => .next ⟨y.channels.set k ch'⟩
    | .fault r => .fault r
    | .refused r => .refused r

/-- The channels of a list, each given its Dispatcher tick in order (R143, R147). -/
def tickChannels : List Channel → Host.Outcome (List Channel) Fault Refusal
  | [] => .next []
  | ch :: rest =>
    match ch.dispatcherTick with
    | .next ch' =>
      match tickChannels rest with
      | .next rest' => .next (ch' :: rest')
      | .fault r => .fault r
      | .refused r => .refused r
    | .fault r => .fault r
    | .refused r => .refused r

/-- One Dispatcher tick (R143). -/
def System.dispatcherTick (y : System) : Host.Outcome System Fault Refusal :=
  match tickChannels y.channels with
  | .next cs => .next ⟨cs⟩
  | .fault r => .fault r
  | .refused r => .refused r

end Sys2Proof.Machine
end

