-- ==== Sys2Proof/Safety.lean ====
section
/-! DEFINITION. The terms claims use: the invariants of 10_state.md R27, what part of a state is the block's, which
frames can be received (40_feed.md R91), and reachable states. -/

namespace Sys2Proof.Machine

/-- (I1): `ST = HUNT` if and only if `IDX = 0`. -/
def HuntIffEmpty (s : State) : Prop := s.st = .hunt ↔ s.idx = 0

/-- (I2): in COLLECT, `1 <= IDX <= 21` and `BUF[0] = MARKER`. -/
def CollectHoldsMarker (s : State) : Prop :=
  s.st = .collect → 1 ≤ s.idx.toNat ∧ s.idx.toNat ≤ 21 ∧ byteAt s.buf 0 = markerByte s.params

/-- (I3): in HUNT, `GAP = 0`. -/
def HuntGapZero (s : State) : Prop := s.st = .hunt → s.gap = 0

/-- (I4): `GAP` is 0 when the timeout is disabled and below `GAP_T` when it is not. -/
def GapBelowLimit (s : State) : Prop :=
  (s.params.set.gapT = 0 → s.gap = 0) ∧ (2 ≤ s.params.set.gapT → s.gap.toNat < s.params.set.gapT)

/-- What (I5) says of a frame that was validated: it begins with the marker, its checksum matches, no payload byte is
the marker, and under RESTART the checksum byte is not. These are the frames the block can report VALID (40_feed.md R91). -/
def ValidatedFrame (p : Params) (f : Frame) : Prop :=
  byteAt f 0 = markerByte p ∧ cks p f = byteAt f 21 ∧
  (p.set.lastMarkerRule = .restart → byteAt f 21 ≠ markerByte p) ∧
  ∀ k, 1 ≤ k → k ≤ 20 → byteAt f k ≠ markerByte p

/-- (I5): a valid latch holds a validated frame. -/
def LatchValidated (s : State) : Prop := s.frmValid = true → ValidatedFrame s.params s.frm

/-- (I6): an invalid latch is all zero. -/
def LatchZero (s : State) : Prop := s.frmValid = false → s.frm = zeroFrame

/-- The bytes collected after the marker are not markers: what makes I5 inductive (40_feed.md R90). -/
def CollectedClean (s : State) : Prop :=
  s.st = .collect → ∀ k, 1 ≤ k → k < s.idx.toNat → byteAt s.buf k ≠ markerByte s.params

/-- I1 to I6 of R27, with `CollectedClean`. -/
structure Inv (s : State) : Prop where
  huntIffEmpty : HuntIffEmpty s
  collectHoldsMarker : CollectHoldsMarker s
  huntGapZero : HuntGapZero s
  gapBelowLimit : GapBelowLimit s
  latchValidated : LatchValidated s
  latchZero : LatchZero s
  collectedClean : CollectedClean s

/-- The two states hold the same block: every field but the last event (R20, R32). -/
def SameBlock (s t : State) : Prop := s.emit .none = t.emit .none

/-- The two states differ at most in bytes of `BUF` at positions from `IDX` on (10_state.md R23). -/
def AgreeUpToStale (s t : State) : Prop :=
  t = { s with buf := t.buf } ∧ ∀ k, k < s.idx.toNat → byteAt t.buf k = byteAt s.buf k

/-- n steps that emit NONE. -/
def quiet (n : Nat) : List Event := List.replicate n Event.none

/-- A state that some inputs lead to from reset (R182), whatever the parameters. -/
inductive Reachable : State → Prop where
  | reset (p : Params) (inputs : List Ports) : Reachable { State.resetWith p with inputs := inputs }
  | step {s t : State} : Reachable s → Sys2Proof.Machine.step s = .next t → Reachable t

end Sys2Proof.Machine
end

