-- ==== Sys2Proof/Certificates/Slice0/Obligations.lean ====
section
/-! DEFINITION. The statements for the provers, from the numbered rules of spec/. -/

open Sys2Proof Sys2Proof.Machine

-- ---------------------------------------------------------------- reset, bring-up, parameters

/-- R33: the state after reset, for every parameter set; `BUF` is unspecified and not mentioned. -/
def Obligations.ResetStateValues : Prop :=
  ∀ p : Params,
    (State.resetWith p).st = .hunt ∧ (State.resetWith p).idx = 0 ∧
    (∀ k, k < 22 → byteAt (State.resetWith p).frm k = 0) ∧
    (State.resetWith p).frmValid = false ∧ (State.resetWith p).gap = 0

/-- R180: RESET in every state; it dominates every command word and is idempotent on the block. The configuration and the
inputs to come are untouched (R34, R184); nothing is said of `BUF`. -/
def Obligations.ResetCommand : Prop :=
  (∀ s : State, ∃ t, exec .reset s = .next t ∧
    t.st = .hunt ∧ t.idx = 0 ∧ t.gap = 0 ∧ t.frm = zeroFrame ∧ t.frmValid = false ∧ t.ev = .none ∧
    inSync t = false ∧ frmValidFlag t = false ∧ t.params = s.params ∧ t.inputs = s.inputs ∧
    decodeFields t.params t.frm = decodeFields s.params zeroFrame) ∧
  (∀ cmd : CmdWord, decode ⟨true, cmd⟩ = .reset) ∧
  (∀ p : Params, ∃ t, exec .reset (State.resetWith p) = .next t ∧
    { t with buf := (State.resetWith p).buf, freeCount := (State.resetWith p).freeCount } = State.resetWith p)

/-- R9: a parameter set is well-formed exactly when the conditions of the table hold, an instance is brought
up from it (R183), and one with any other set is refused by a check it fails. CKS_KIND is SUM8 or CRC8 by its type. -/
def Obligations.WellFormedParameters : Prop :=
  ∀ p : ParamSet,
   (p.wellFormed = true → ∃ q : Params, q.set = p ∧ bringUp p = .next (State.resetWith q)) ∧
   (p.wellFormed = false → ∃ c, p.passes c = false ∧ bringUp p = .refused (.illFormedParameters c)) ∧
   (p.wellFormed = true ↔
    p.marker ≤ 255 ∧
    (p.cksEnd = 20 ∨ p.cksEnd = 21) ∧
    (p.cksKind = .crc8 → p.crcPoly ≤ 255 ∧ p.crcInit ≤ 255 ∧ p.crcXorOut ≤ 255 ∧ p.crcPoly % 2 = 1) ∧
    (p.gapT = 0 ∨ (2 ≤ p.gapT ∧ p.gapT ≤ 65535)) ∧
    (∀ f ∈ p.defaultFields ++ p.settingsFields, 1 ≤ f.1 ∧ f.1 + f.2 - 1 ≤ 20) ∧
    (p.defaultFields.Pairwise (fun f g => ∀ k, ¬ ((f.1 ≤ k ∧ k < f.1 + f.2) ∧ (g.1 ≤ k ∧ k < g.1 + g.2))) ∧
     p.settingsFields.Pairwise (fun f g => ∀ k, ¬ ((f.1 ≤ k ∧ k < f.1 + f.2) ∧ (g.1 ≤ k ∧ k < g.1 + g.2)))) ∧
    (1 ≤ p.modeOff ∧ p.modeOff ≤ 20 ∧ p.modeBit ≤ 7 ∧ (p.modePol = 0 ∨ p.modePol = 1)) ∧
    ((p.numChannels = 1 ∨ p.numChannels = 2) ∧ 1 ≤ p.maxFeedsPerTick.toNat))

/-- R184: no command, and no step, changes the configuration. -/
def Obligations.ParametersStatic : Prop :=
  (∀ (i : Instr) (s t : State), exec i s = .next t → t.params = s.params) ∧
  (∀ s t : State, step s = .next t → t.params = s.params)

-- ---------------------------------------------------------------- encodings and the step

/-- R61: the command selector on every one of the 1024 words, by the value of the word. -/
def Obligations.CommandSelector : Prop :=
  ∀ w : CmdWord,
    (w.toNat / 256 = 0 → decode ⟨false, w⟩ = .nop) ∧
    (w.toNat / 256 = 1 → decode ⟨false, w⟩ = .feed (BitVec.ofNat 8 (w.toNat % 256))) ∧
    (w.toNat / 256 = 2 → decode ⟨false, w⟩ = .tick) ∧
    (w.toNat / 256 = 3 → decode ⟨false, w⟩ = .rsvd)

/-- Words written out from the spec (R72, 95_test_vectors.md) decode to the commands they stand for. -/
def Obligations.SpecWordsDecode : Prop :=
  decodeTableWord 16 0x000 = some .nop ∧ decodeTableWord 16 0x0FF = some .nop ∧
  decodeTableWord 16 0x1AA = some (.feed 0xAA) ∧ decodeTableWord 16 0x18A = some (.feed 0x8A) ∧
  decodeTableWord 16 0x200 = some .tick ∧ decodeTableWord 16 0x3AA = some .rsvd

/-- Every instruction, with every operand, is decoded from its encoding, as input lines and as a word
(the numbering of an input as a word is the model's choice, log entry 5). -/
def Obligations.DecodeOfEncode : Prop :=
  ∀ i : Instr, decode (encode i) = i ∧ decodeWord (encodeWord i) = .ok i ∧
    decodeTableWord 16 (encodeWord i) = some i

/-- No meaningful bit is dropped: the encoding of what an input decodes to agrees with the input on `rst`, and, where
`rst` is 0, on `OP`, and for FEED on all of `cmd`; a number past bit 10 is refused (the model's choice, log entry 5). -/
def Obligations.EncodeOfDecode : Prop :=
  (∀ x : Ports, (encode (decode x)).rst = x.rst ∧
    (x.rst = false → opField (encode (decode x)).cmd = opField x.cmd) ∧
    (∀ b, decode x = .feed b → encode (decode x) = x)) ∧
  (∀ w : Nat, 2048 ≤ w → decodeWord w = .error (.unusedBits w))

/-- R12, R60: a step takes the next input presented and is the meaning of the instruction it decodes to, run on the state
without that input; with `rst = 1` it is a reset whatever `cmd` holds. That the inputs to come stand in a list is the
model's choice (log entry 4). -/
def Obligations.StepRunsDecodedInstruction : Prop :=
  ∀ (s : State) (x : Ports) (rest : List Ports), s.inputs = x :: rest →
    step s = exec (decode x) { s with inputs := rest } ∧
    (x.rst = true → step s = exec .reset { s with inputs := rest })

/-- The model's choice (log entry 4): with no input presented there is no step. -/
def Obligations.StepWithoutInputFaults : Prop :=
  ∀ s : State, s.inputs = [] → step s = .fault .noInput

/-- The model's choice of where a program stands (log entry 4): a word presented is the very next step's instruction. -/
def Obligations.PresentedWordRunsNext : Prop :=
  ∀ (i : Instr) (s : State), step (s.withFetchWord 16 (encodeWord i)) = exec i s

/-- R48: presenting a stream of commands and stepping once for each gives the state of its trace. -/
def Obligations.StepsRunTheTrace : Prop :=
  ∀ (is : List Instr) (s t : State) (es : List Event), s.inputs = [] →
    trace is s = some (es, t) → core.run is.length (s.load is) = .next t

-- ---------------------------------------------------------------- errors and events

/-- R160, R161: no command faults in any state, and every command but the reserved one answers a next state in every
state. -/
def Obligations.EveryCommandCompletes : Prop :=
  (∀ (i : Instr) (s : State) (r : Fault), exec i s ≠ .fault r) ∧
  (∀ (i : Instr) (s : State), i ≠ .rsvd → ∃ t, exec i s = .next t)

/-- R64, R65: the five codes, the commands that emit each, and the three codes never emitted. -/
def Obligations.EventsByCommand : Prop :=
  (Event.code .none = 0#3 ∧ Event.code .valid = 1#3 ∧ Event.code .errChecksum = 2#3 ∧
    Event.code .errFramingMarker = 3#3 ∧ Event.code .errFramingTimeout = 4#3) ∧
  ∀ (i : Instr) (s t : State), exec i s = .next t →
    (outputs t).ev ≠ 5#3 ∧ (outputs t).ev ≠ 6#3 ∧ (outputs t).ev ≠ 7#3 ∧
    ((outputs t).ev = 1#3 ∨ (outputs t).ev = 2#3 ∨ (outputs t).ev = 3#3 → ∃ b, i = .feed b) ∧
    ((outputs t).ev = 4#3 → i = .tick) ∧
    (i = .nop ∨ i = .reset → (outputs t).ev = 0#3)

-- ---------------------------------------------------------------- FEED

/-- R81: a byte other than the marker is discarded in HUNT. -/
def Obligations.FeedHuntDiscards : Prop :=
  ∀ (b : Byte) (s : State), s.st = .hunt → b ≠ markerByte s.params →
    exec (.feed b) s = .next { s with ev := .none }

/-- R82: the marker in HUNT begins a frame. -/
def Obligations.FeedHuntMarkerBegins : Prop :=
  ∀ (b : Byte) (s : State), s.st = .hunt → b = markerByte s.params →
    exec (.feed b) s = .next { s with
      buf := s.buf.set 0 (markerByte s.params), idx := 1, st := .collect, gap := 0, ev := .none }

/-- R83: a byte is stored at `IDX`, which advances without wrapping. -/
def Obligations.FeedCollectStores : Prop :=
  ∀ (b : Byte) (s : State), s.st = .collect → 1 ≤ s.idx.toNat → s.idx.toNat ≤ 20 →
    b ≠ markerByte s.params →
    ∃ t, exec (.feed b) s = .next t ∧
      t = { s with buf := t.buf, idx := s.idx + 1, gap := 0, ev := .none } ∧
      t.idx.toNat = s.idx.toNat + 1 ∧ byteAt t.buf s.idx.toNat = b ∧
      ∀ k, k ≠ s.idx.toNat → byteAt t.buf k = byteAt s.buf k

/-- R84: the marker mid-frame abandons the frame and begins a new one; `FRM`, `FRM_VALID` and all else stay. -/
def Obligations.FeedMarkerRestarts : Prop :=
  ∀ (b : Byte) (s : State), s.st = .collect → b = markerByte s.params →
    (1 ≤ s.idx.toNat ∧ s.idx.toNat ≤ 20 ∨ s.idx.toNat = 21 ∧ s.params.set.lastMarkerRule = .restart) →
    exec (.feed b) s = .next { s with
      buf := s.buf.set 0 (markerByte s.params), idx := 1, gap := 0, ev := .errFramingMarker }

/-- R85: the 22nd byte, where R84 does not take it, is compared with the checksum of the bytes collected. -/
def Obligations.FeedCompletesFrame : Prop :=
  ∀ (b : Byte) (s : State), s.st = .collect → s.idx.toNat = 21 →
    ¬ (b = markerByte s.params ∧ s.params.set.lastMarkerRule = .restart) →
    (cks s.params (s.buf.set 21 b) = b →
      exec (.feed b) s = .next { s with
        buf := s.buf.set 21 b, frm := s.buf.set 21 b, frmValid := true,
        st := .hunt, idx := 0, gap := 0, ev := .valid }) ∧
    (cks s.params (s.buf.set 21 b) ≠ b →
      exec (.feed b) s = .next { s with
        buf := s.buf.set 21 b, st := .hunt, idx := 0, gap := 0, ev := .errChecksum })

/-- R86: the marker as the 22nd byte, under each value of LAST_MARKER_RULE. -/
def Obligations.MarkerAsLastByte : Prop :=
  ∀ (b : Byte) (s : State), s.st = .collect → s.idx.toNat = 21 → b = markerByte s.params →
    (s.params.set.lastMarkerRule = .restart →
      exec (.feed b) s = .next { s with
        buf := s.buf.set 0 b, idx := 1, gap := 0, ev := .errFramingMarker }) ∧
    (s.params.set.lastMarkerRule = .asChecksum →
      exec (.feed b) s = .next
        (if cks s.params (s.buf.set 21 b) = b then
          { s with buf := s.buf.set 21 b, frm := s.buf.set 21 b, frmValid := true,
                   st := .hunt, idx := 0, gap := 0, ev := .valid }
        else { s with buf := s.buf.set 21 b, st := .hunt, idx := 0, gap := 0, ev := .errChecksum }))

/-- The frame of FEED (R41, R80): the configuration, the inputs and the count of free values stay; every byte of `BUF` but
the one at the position FEED writes stays; `FRM` and `FRM_VALID` stay unless the event is VALID. -/
def Obligations.FeedFrameCondition : Prop :=
  ∀ (b : Byte) (s t : State), exec (.feed b) s = .next t →
    t.params = s.params ∧ t.inputs = s.inputs ∧ t.freeCount = s.freeCount ∧
    (∀ k, feedPosition b s ≠ some k → byteAt t.buf k = byteAt s.buf k) ∧
    (∀ k, k < 22 → feedPosition b s = some k → byteAt t.buf k = b) ∧
    (t.ev ≠ .valid → t.frm = s.frm ∧ t.frmValid = s.frmValid)

/-- R88: `FRM` and `FRM_VALID` are written by a command other than RESET only in the step of a VALID, which is a FEED whose 22
bytes match; then all 22 bytes are the frame's. -/
def Obligations.LatchOnlyOnValid : Prop :=
  ∀ (i : Instr) (s t : State), exec i s = .next t → i ≠ .reset →
    (t.ev = .valid → ∃ b, i = .feed b ∧ t.frm = s.buf.set 21 b ∧ t.frmValid = true ∧
      cks s.params t.frm = byteAt t.frm 21) ∧
    (t.ev ≠ .valid → t.frm = s.frm ∧ t.frmValid = s.frmValid)

-- ---------------------------------------------------------------- TICK, NOP, the reserved command

/-- R130: TICK in each of its cases, with nothing but the named elements changed. -/
def Obligations.TickCommand : Prop :=
  ∀ s : State,
    (s.st = .collect → s.params.set.gapT ≠ 0 → s.params.set.gapT ≤ s.gap.toNat + 1 →
      exec .tick s = .next { s with st := .hunt, idx := 0, gap := 0, ev := .errFramingTimeout }) ∧
    (s.st = .collect → s.params.set.gapT ≠ 0 → s.gap.toNat + 1 < s.params.set.gapT →
      exec .tick s = .next { s with gap := s.gap + 1, ev := .none } ∧
        (s.gap + 1).toNat = s.gap.toNat + 1) ∧
    (s.st = .hunt ∨ s.params.set.gapT = 0 → exec .tick s = .next { s with ev := .none })

/-- R130: from a frame just fed, the timeout fires on the GAP_T-th TICK and on none before. -/
def Obligations.TimeoutOnLastTick : Prop :=
  ∀ s : State, s.st = .collect → s.gap = 0 → 2 ≤ s.params.set.gapT →
    (∀ n, 1 ≤ n → n < s.params.set.gapT →
      trace (List.replicate n .tick) s =
        some (quiet n, { s with gap := BitVec.ofNat 16 n, ev := .none })) ∧
    trace (List.replicate s.params.set.gapT .tick) s =
      some (quiet (s.params.set.gapT - 1) ++ [Event.errFramingTimeout],
        { s with st := .hunt, idx := 0, gap := 0, ev := .errFramingTimeout })

/-- R131: with `GAP_T = 0` no number of TICKs changes the block or emits an event. -/
def Obligations.TicksDisabled : Prop :=
  ∀ (n : Nat) (s : State), s.params.set.gapT = 0 →
    ∃ t, trace (List.replicate n .tick) s = some (quiet n, t) ∧ SameBlock s t

/-- R133: NOP writes no state and emits NONE. -/
def Obligations.NopKeepsState : Prop :=
  ∀ s : State, exec .nop s = .next { s with ev := .none }

/-- R133: NOPs anywhere in a stream of commands change neither the block it leaves nor the events of the other commands. That
`BUF` after the n-th RESET is the same in both streams is the model's choice (DESIGN CHOICE, log entry 7). -/
def Obligations.NopsAreInvisible : Prop :=
  ∀ (is : List Instr) (s t : State) (es : List Event), trace is s = some (es, t) →
    ∃ es' t', trace (is.filter (fun i => decide (i ≠ .nop))) s = some (es', t') ∧ SameBlock t t' ∧
      es'.filter (fun e => decide (e ≠ .none)) = es.filter (fun e => decide (e ≠ .none))

/-- R134: the reserved command is refused in every state, by its `OP` bits alone. -/
def Obligations.ReservedCommandRefused : Prop :=
  (∀ s : State, exec .rsvd s = .refused .reservedCommand) ∧
  (∀ (s : State) (cmd : CmdWord) (rest : List Ports), 768 ≤ cmd.toNat →
    s.inputs = ⟨false, cmd⟩ :: rest → step s = .refused .reservedCommand)

-- ---------------------------------------------------------------- the checksum

/-- R100: `CKS` is SUM8 or CRC8, by CKS_KIND, of the bytes at positions `0 .. CKS_END-1` in order; position 21 never counts. -/
def Obligations.ChecksumSpan : Prop :=
  (∀ (p : Params) (f : Frame),
    (p.set.cksKind = .sum8 → cks p f = sum8 ((List.range p.set.cksEnd).map (byteAt f))) ∧
    (p.set.cksKind = .crc8 → cks p f =
      crc8 (BitVec.ofNat 8 p.set.crcPoly) (BitVec.ofNat 8 p.set.crcInit) p.set.crcReflect
        (BitVec.ofNat 8 p.set.crcXorOut) ((List.range p.set.cksEnd).map (byteAt f)))) ∧
  (∀ (p : Params) (f : Frame) (b : Byte), cks p (f.set 21 b) = cks p f)

/-- R101: SUM8 is the sum of the bytes as unsigned integers, modulo 256. -/
def Obligations.Sum8IsSumModulo256 : Prop :=
  ∀ ds : List Byte, (sum8 ds).toNat = (ds.map BitVec.toNat).sum % 256

/-- R103: a CRC instance has bit 0 of CRC_POLY set; a SUM8 instance reads no CRC parameter; the two check values of
"123456789". -/
def Obligations.CrcParameters : Prop :=
  (∀ p : Params, p.set.cksKind = .crc8 → (BitVec.ofNat 8 p.set.crcPoly).getLsbD 0 = true) ∧
  (∀ (p q : Params) (f : Frame), p.set.cksKind = .sum8 → q.set.cksKind = .sum8 →
    p.set.cksEnd = q.set.cksEnd → cks p f = cks q f) ∧
  crc8 0x07 0 false 0 [0x31, 0x32, 0x33, 0x34, 0x35, 0x36, 0x37, 0x38, 0x39] = 0xF4 ∧
  crc8 0x31 0 true 0 [0x31, 0x32, 0x33, 0x34, 0x35, 0x36, 0x37, 0x38, 0x39] = 0xA1

/-- R105: the CRC is affine in the data: over spans of one length, the CRC of the sum of two spans is the sum of their CRCs
and the CRC of the zero span, for every polynomial, initial value, reflection and final value. -/
def Obligations.CrcIsAffine : Prop :=
  ∀ (poly init xorOut : Byte) (reflect : Bool) (xs ys : List Byte), xs.length = ys.length →
    crc8 poly init reflect xorOut (List.zipWith (fun x y => x ^^^ y) xs ys) =
      crc8 poly init reflect xorOut xs ^^^ crc8 poly init reflect xorOut ys ^^^
        crc8 poly init reflect xorOut (List.replicate xs.length 0)

/-- R105: with CKS_END = 21, a change of any one byte of a matching frame is detected, by SUM8 and by CRC8. -/
def Obligations.OneByteChangeDetected : Prop :=
  ∀ (p : Params) (f : Frame) (k : Nat) (b : Byte), p.set.cksEnd = 21 → k < 22 → b ≠ byteAt f k →
    cks p f = byteAt f 21 →
    cks p (f.setIfInBounds k b) ≠ byteAt (f.setIfInBounds k b) 21

/-- R105: SUM8 does not detect +1 at one position of the span and -1 at another. -/
def Obligations.TwoByteChangeUndetectedBySum : Prop :=
  ∀ (p : Params) (f : Frame) (i j : Nat), p.set.cksKind = .sum8 → i ≠ j →
    i < p.set.cksEnd → j < p.set.cksEnd →
    cks p ((f.setIfInBounds i (byteAt f i + 1)).setIfInBounds j (byteAt f j - 1)) = cks p f

-- ---------------------------------------------------------------- decoded outputs

/-- R111: the value of a one- or two-byte field in each byte order, unsigned. -/
def Obligations.FieldExtraction : Prop :=
  ∀ (p : Params) (f : Frame) (off : Nat),
    (fld p f off .one).toNat = (byteAt f off).toNat ∧
    (p.set.fieldOrder = .be →
      (fld p f off .two).toNat = 256 * (byteAt f off).toNat + (byteAt f (off + 1)).toNat) ∧
    (p.set.fieldOrder = .le →
      (fld p f off .two).toNat = 256 * (byteAt f (off + 1)).toNat + (byteAt f off).toNat)

/-- R112: `dec_mode` is 1 exactly when bit MODE_BIT of byte MODE_OFF equals MODE_POL. -/
def Obligations.ModeOutput : Prop :=
  ∀ s : State, (outputs s).decoded.mode = true ↔
    (byteAt s.frm s.params.set.modeOff).toNat / 2 ^ s.params.set.modeBit % 2 = s.params.set.modePol

/-- R113: the default-mode outputs. -/
def Obligations.DefaultModeOutputs : Prop :=
  ∀ s : State,
    (outputs s).decoded.rpm = fld s.params s.frm s.params.set.offRpm .two ∧
    (outputs s).decoded.ma = fld s.params s.frm s.params.set.offMa .two ∧
    (outputs s).decoded.err = byteAt s.frm s.params.set.offErr

/-- R114: the settings-mode outputs. -/
def Obligations.SettingsModeOutputs : Prop :=
  ∀ s : State,
    (outputs s).decoded.spdMin = fld s.params s.frm s.params.set.offSpdMin s.params.set.wSpd ∧
    (outputs s).decoded.spdMax = fld s.params s.frm s.params.set.offSpdMax s.params.set.wSpd ∧
    (∀ (j : Nat) (h : j < 3),
      (outputs s).decoded.vin[j] = fld s.params s.frm s.params.set.offVin[j] s.params.set.wV ∧
      (outputs s).decoded.vout[j] = fld s.params s.frm s.params.set.offVout[j] s.params.set.wV) ∧
    (outputs s).decoded.modeByte = byteAt s.frm s.params.set.offModeByte

/-- R9, R111: no decoded output depends on the marker or the checksum byte. -/
def Obligations.FieldsReadPayloadOnly : Prop :=
  ∀ (p : Params) (f : Frame) (b c : Byte),
    decodeFields p ((f.set 0 b).set 21 c) = decodeFields p f

/-- R117: while `FRM` is all zero `dec_mode` is 1 exactly when MODE_POL = 0 and every other decoded output is 0; the reset state
is such a state. -/
def Obligations.OutputsBeforeFirstValid : Prop :=
  (∀ p : Params, decodeFields p zeroFrame =
    { mode := decide (p.set.modePol = 0), rpm := 0, ma := 0, err := 0, spdMin := 0, spdMax := 0,
      vin := #v[0, 0, 0], vout := #v[0, 0, 0], modeByte := 0 }) ∧
  (∀ p : Params, (State.resetWith p).frm = zeroFrame) ∧
  (∀ s : State, Inv s → s.frmValid = false → s.frm = zeroFrame)

/-- R118: the frame and the decoded outputs change only in a step that emits VALID or in a reset; R30, R66: in every state
the ports in_sync, frm_valid, frm and ev present `ST = COLLECT`, `FRM_VALID`, `FRM` and the code of the step's event. -/
def Obligations.OutputsStable : Prop :=
  (∀ s : State, ((outputs s).inSync = true ↔ s.st = .collect) ∧ (outputs s).frmValid = s.frmValid ∧
    (outputs s).frm = s.frm ∧ (outputs s).ev = s.ev.code) ∧
  ∀ s t : State, step s = .next t → t.ev ≠ .valid →
    (∀ x rest, s.inputs = x :: rest → x.rst = false) →
    (outputs t).frm = (outputs s).frm ∧ (outputs t).frmValid = (outputs s).frmValid ∧
    (outputs t).decoded = (outputs s).decoded

-- ---------------------------------------------------------------- invariants and whole-machine rules

/-- R27: the invariants hold in the reset state, for every parameter set, and so in `State.reset`. -/
def Obligations.InvariantsAtReset : Prop :=
  (∀ p : Params, Inv (State.resetWith p)) ∧ Inv State.reset

/-- R27: every step keeps I1 to I6, with the model's `CollectedClean`, which makes I5 inductive (R90). -/
def Obligations.StepKeepsInvariants : Prop :=
  ∀ s t : State, Inv s → step s = .next t → Inv t

/-- R27: I1 to I6 in every state that any inputs reach from reset, for every parameter set. -/
def Obligations.ReachableStatesSatisfyR27 : Prop :=
  ∀ s : State, Reachable s →
    HuntIffEmpty s ∧ CollectHoldsMarker s ∧ HuntGapZero s ∧ GapBelowLimit s ∧ LatchValidated s ∧ LatchZero s

/-- R27, R23: bytes of `BUF` at positions from `IDX` on never matter: of two states that differ only there, a command gives the
same event and states that again differ only there. -/
def Obligations.StaleBytesNeverMatter : Prop :=
  ∀ (i : Instr) (s s' t : State), AgreeUpToStale s s' → exec i s = .next t →
    ∃ t', exec i s' = .next t' ∧ AgreeUpToStale t t' ∧ outputs t' = outputs t

/-- R91: a frame is reported VALID only if no payload byte is the marker, and under RESTART nor is its checksum byte. -/
def Obligations.ValidFramesAreClean : Prop :=
  ∀ (i : Instr) (s t : State), Inv s → exec i s = .next t → t.ev = .valid →
    ValidatedFrame t.params t.frm

/-- R92: a step that emits VALID leaves HUNT with `IDX = 0`, and from HUNT a stream of commands that ends in a VALID holds at
least 22 FEEDs. -/
def Obligations.ValidSpacing : Prop :=
  (∀ (i : Instr) (s t : State), exec i s = .next t → t.ev = .valid → t.st = .hunt ∧ t.idx = 0) ∧
  (∀ (is : List Instr) (s t : State) (es : List Event), s.st = .hunt → trace is s = some (es, t) →
    es.getLast? = some .valid → 22 ≤ feedCount is)

-- ---------------------------------------------------------------- whole frames

/-- R82, R83, R85, R88: from HUNT, the 22 bytes of a frame that can be received give 21 NONE and a VALID, and the latch holds
the frame. -/
def Obligations.WholeFrameReceived : Prop :=
  ∀ (s : State) (f : Frame), s.st = .hunt → ValidatedFrame s.params f →
    trace (wire f) s = some (quiet 21 ++ [Event.valid],
      { s with st := .hunt, idx := 0, gap := 0, buf := f, frm := f, frmValid := true, ev := .valid })

/-- R73: the pseudo-instruction FRAME gives a VALID of its frame, unless a payload byte is the marker or, under RESTART, its
checksum is. -/
def Obligations.FramePseudoReceived : Prop :=
  ∀ (s : State) (payload : Vector Byte 20), s.st = .hunt →
    (∀ b ∈ payload.toList, b ≠ markerByte s.params) →
    (s.params.set.lastMarkerRule = .restart → frameChecksum s.params payload ≠ markerByte s.params) →
    ∃ t, trace (Line.expand s.params (.frame payload)) s = some (quiet 21 ++ [Event.valid], t) ∧
      t.st = .hunt ∧ t.frm = frameOf s.params payload (frameChecksum s.params payload) ∧ t.frmValid = true

/-- R93 (a): a byte at position 1..21 changed to a value other than the marker gives exactly one ERR_CHECKSUM, then VALID for
the next frame. -/
def Obligations.CorruptedByteOneChecksumError : Prop :=
  ∀ (s : State) (f g : Frame) (k : Nat) (b : Byte), s.st = .hunt → s.params.set.cksEnd = 21 →
    ValidatedFrame s.params f → ValidatedFrame s.params g → 1 ≤ k → k ≤ 21 →
    b ≠ byteAt f k → b ≠ markerByte s.params →
    ∃ t, trace (wire (f.setIfInBounds k b) ++ wire g) s =
        some (quiet 21 ++ [Event.errChecksum] ++ quiet 21 ++ [Event.valid], t) ∧
      t.st = .hunt ∧ t.frm = g ∧ t.frmValid = true

/-- R93 (b): under RESTART a byte at position 1..21 changed to the marker gives two framing errors, then VALID for the next
frame. -/
def Obligations.ByteChangedToMarkerRestart : Prop :=
  ∀ (s : State) (f g : Frame) (k : Nat), s.st = .hunt → s.params.set.lastMarkerRule = .restart →
    ValidatedFrame s.params f → ValidatedFrame s.params g → 1 ≤ k → k ≤ 21 →
    ∃ t, trace (wire (f.setIfInBounds k (markerByte s.params)) ++ wire g) s =
        some (quiet k ++ [Event.errFramingMarker] ++ quiet (21 - k) ++
          [Event.errFramingMarker] ++ quiet 20 ++ [Event.valid], t) ∧
      t.st = .hunt ∧ t.frm = g ∧ t.frmValid = true

/-- R93 (c): a changed marker gives no event for the frame and VALID for the next one; the checksum byte is taken not to be the
marker, which would begin a frame in HUNT (R82; log entry 21). -/
def Obligations.CorruptedMarkerSilent : Prop :=
  ∀ (s : State) (f g : Frame) (b : Byte), s.st = .hunt →
    ValidatedFrame s.params f → byteAt f 21 ≠ markerByte s.params → ValidatedFrame s.params g →
    b ≠ markerByte s.params →
    ∃ t, trace (wire (f.set 0 b) ++ wire g) s =
        some (quiet 43 ++ [Event.valid], t) ∧
      t.st = .hunt ∧ t.frm = g ∧ t.frmValid = true

/-- R93 (d): under AS_CHECKSUM a byte changed to the marker, at positions 2..20, at 21 and at 1; the frame's own checksum byte
is taken not to be the marker (log entry 21). -/
def Obligations.ByteChangedToMarkerAsChecksum : Prop :=
  ∀ (s : State) (f g : Frame), s.st = .hunt → s.params.set.lastMarkerRule = .asChecksum →
    ValidatedFrame s.params f → byteAt f 21 ≠ markerByte s.params → ValidatedFrame s.params g →
    (∀ k, 2 ≤ k → k ≤ 20 →
      ∃ t, trace (wire (f.setIfInBounds k (markerByte s.params)) ++ wire g) s =
          some (quiet k ++ [Event.errFramingMarker] ++ quiet (21 - k) ++
            [Event.errFramingMarker] ++ quiet 20 ++ [Event.valid], t) ∧
        t.frm = g) ∧
    (∃ t, trace (wire (f.set 21 (markerByte s.params)) ++ wire g) s =
        some (quiet 21 ++ [Event.errChecksum] ++ quiet 21 ++ [Event.valid], t) ∧
      t.frm = g) ∧
    (∃ t, trace (wire (f.set 1 (markerByte s.params)) ++ wire g) s =
        some ([Event.none, Event.errFramingMarker] ++ quiet 20 ++
          [if cks s.params (Vector.ofFn (fun j : Fin 22 => if j.val = 0 then markerByte s.params else byteAt f (j.val + 1)))
              = markerByte s.params then Event.valid else Event.errChecksum] ++ quiet 21, t))

/-- R93, C1: with CKS_END = 20 a change at position 20 to a value other than the marker is not detected. -/
def Obligations.ShortSpanMissesByteTwenty : Prop :=
  ∀ (s : State) (f : Frame) (b : Byte), s.st = .hunt → s.params.set.cksEnd = 20 →
    ValidatedFrame s.params f → b ≠ markerByte s.params →
    ∃ t, trace (wire (f.set 20 b)) s = some (quiet 21 ++ [Event.valid], t) ∧ t.frm = f.set 20 b

-- ---------------------------------------------------------------- the environment

/-- R144: what the consumer does with each event, and that it does so in the step that emits it: issuing a command that runs
leaves the block at the next state and the consumer having acted on that state. That sums and counts have no bound is the
model's choice (DESIGN CHOICE, unsafe, log entry 15). -/
def Obligations.ConsumerActions : Prop :=
  (∀ (i : Instr) (ch : Channel) (t : State), exec i ch.block = .next t →
    Channel.issue i ch = .next { ch with block := t, consumer := ch.consumer.act t }) ∧
  ∀ (s : State) (c : Consumer),
    (s.ev = .valid → (outputs s).decoded.mode = false → c.act s = { c with
      totalRpm := c.totalRpm + (outputs s).decoded.rpm.toNat,
      totalMa := c.totalMa + (outputs s).decoded.ma.toNat,
      readingCount := c.readingCount + 1,
      errorStatus := c.errorStatus ||| (outputs s).decoded.err }) ∧
    (s.ev = .valid → (outputs s).decoded.mode = true → c.act s = { c with
      settings := ⟨(outputs s).decoded.spdMin, (outputs s).decoded.spdMax, (outputs s).decoded.vin,
        (outputs s).decoded.vout, (outputs s).decoded.modeByte⟩ }) ∧
    (s.ev = .errChecksum → c.act s = { c with commsErrorCount := c.commsErrorCount + 1 }) ∧
    (s.ev = .errFramingMarker ∨ s.ev = .errFramingTimeout →
      (s.params.set.framingCounts = true → c.act s = { c with commsErrorCount := c.commsErrorCount + 1 }) ∧
      (s.params.set.framingCounts = false → c.act s = c)) ∧
    (s.ev = .none → c.act s = c)

/-- R142, R143, R149: one Dispatcher tick of a channel is one TICK and then the FEEDs of at most MAX_FEEDS_PER_TICK waiting
bytes, in order; the bytes past the cap stay, and nothing is written to the Byte Source. R144: the consumer is the one that
serving those commands one by one gives, acting on the event of each in its step. That the bytes fed are those waiting at
the tick's start, though R143's loop tests available() each time, and that the TICK is always issued, is the model's choice
(DESIGN CHOICE, unsafe for claims on which tick feeds a byte, log entry 16). -/
def Obligations.DispatcherTickFeeds : Prop :=
  ∀ ch : Channel, ∃ ch' es, ch.dispatcherTick = .next ch' ∧
    trace (tickCommands ch.block.params.set.maxFeedsPerTick.toNat ch.source.pending) ch.block = some (es, ch'.block) ∧
    Channel.serve (tickCommands ch.block.params.set.maxFeedsPerTick.toNat ch.source.pending)
      { ch with source := ch'.source } = .next ch' ∧
    ch'.source.pending = ch.source.pending.drop ch.block.params.set.maxFeedsPerTick.toNat ∧
    ch'.source.written = ch.source.written

/-- R49, R148, R169: instances start together at reset, each with its own parameters; a command to one channel changes no other
channel, and none reaches a channel that does not exist. A system of well-formed parameter sets in one of R147's topologies
starts; that another topology is refused is the model's choice (log entry 14). -/
def Obligations.ChannelsIndependent : Prop :=
  (∀ (cs : List ChannelSetup) (y : System), System.bringUp cs = .next y →
    y.channels.length = cs.length ∧
    ∀ (k : Nat) (c : ChannelSetup), cs[k]? = some c → ∃ ch, y.channels[k]? = some ch ∧
      ch.block = State.resetWith ch.block.params ∧ ch.block.params.set = c.params ∧
      ch.consumer = c.consumer ∧ ch.source = c.source) ∧
  (∀ cs : List ChannelSetup, (cs.length = 1 ∨ cs.length = 2) →
    (∀ c ∈ cs, c.params.wellFormed = true ∧ c.params.numChannels = cs.length) →
    (cs.filter (fun c => decide (c.source.kind = .software))).length ≤ 1 →
    ∃ y, System.bringUp cs = .next y) ∧
  ∀ (y y' : System) (k : Nat) (i : Instr), y.issue k i = .next y' →
    y'.channels.length = y.channels.length ∧
    (∀ j, j ≠ k → y'.channels[j]? = y.channels[j]?) ∧
    (y.channels.length ≤ k → y' = y)

/-- R152 (a): a stream of default-mode frames that can be received adds each frame's RPM and mA once, counts each reading
once, and touches neither the error count nor the settings. That sums and counts have no bound is the model's choice (DESIGN
CHOICE, unsafe for a host with finite counters, log entry 15). -/
def Obligations.GoodFramesCountedOnce : Prop :=
  ∀ (fs : List Frame) (ch : Channel), ch.block.st = .hunt →
    (∀ f ∈ fs, ValidatedFrame ch.block.params f ∧ (decodeFields ch.block.params f).mode = false) →
    ∃ ch', Channel.serve (fs.flatMap wire) ch = .next ch' ∧ ch'.block.st = .hunt ∧
      ch'.consumer.readingCount = ch.consumer.readingCount + fs.length ∧
      ch'.consumer.totalRpm =
        ch.consumer.totalRpm + (fs.map (fun f => (decodeFields ch.block.params f).rpm.toNat)).sum ∧
      ch'.consumer.totalMa =
        ch.consumer.totalMa + (fs.map (fun f => (decodeFields ch.block.params f).ma.toNat)).sum ∧
      ch'.consumer.commsErrorCount = ch.consumer.commsErrorCount ∧
      ch'.consumer.settings = ch.consumer.settings

/-- R152 (b): a settings-mode frame that can be received overwrites the SettingsSnapshot and changes nothing else of the
consumer. -/
def Obligations.SettingsFrameOnlySnapshot : Prop :=
  ∀ (f : Frame) (ch : Channel), ch.block.st = .hunt → ValidatedFrame ch.block.params f →
    (decodeFields ch.block.params f).mode = true →
    ∃ ch', Channel.serve (wire f) ch = .next ch' ∧
      ch'.consumer = ch.consumer.takeSettings (decodeFields ch.block.params f)

/-- R72: every command line the assembler writes is read back as its command. -/
def Obligations.RenderedLineParses : Prop :=
  ∀ (i : Instr) (line : List Char), render i = some line → parseLine line = some [i]
end

