-- ==== Sys2Proof/Laws/Counters.lean ====
section
/-! SUPPORT. `IDX` and `GAP` advance without wrapping where the rules advance them (10_state.md R22, R26). -/

namespace Sys2Proof.Machine

theorem idx_succ_toNat {i : BitVec 5} (h : i.toNat ≤ 20) : (i + 1).toNat = i.toNat + 1 := by
  simp [BitVec.toNat_add]; omega

theorem gap_succ_toNat {g : BitVec 16} (h : g.toNat < 65535) : (g + 1).toNat = g.toNat + 1 := by
  simp [BitVec.toNat_add]; omega

end Sys2Proof.Machine
end

