-- ==== Sys2Proof/Laws/Decode.lean ====
section
/-! SUPPORT. The fields of a command word, put together and taken apart (30_encoding.md R60). -/

namespace Sys2Proof

@[simp] theorem dataField_cmdWord (op : BitVec 2) (d : Byte) : dataField (cmdWord op d) = d := by
  apply BitVec.eq_of_getLsbD_eq
  intro i hi
  simp only [dataField, cmdWord, BitVec.getLsbD_extractLsb', BitVec.getLsbD_append]
  simp [hi]

@[simp] theorem opField_cmdWord (op : BitVec 2) (d : Byte) : opField (cmdWord op d) = op := by
  apply BitVec.eq_of_getLsbD_eq
  intro i hi
  simp only [opField, cmdWord, BitVec.getLsbD_extractLsb', BitVec.getLsbD_append]
  simp [hi]

/-- A command word is its two fields. -/
theorem cmdWord_fields (w : CmdWord) : cmdWord (opField w) (dataField w) = w := by
  apply BitVec.eq_of_getLsbD_eq
  intro i hi
  simp only [cmdWord, opField, dataField, BitVec.getLsbD_append, BitVec.getLsbD_extractLsb']
  split
  · simp_all
  · rename_i h
    simp [show i - 8 < 2 by omega, show 8 + (i - 8) = i by omega]

/-- The selector by value. -/
theorem opField_toNat (w : CmdWord) : (opField w).toNat = w.toNat / 256 := by
  have := w.isLt
  simp only [opField, BitVec.extractLsb'_toNat, Nat.shiftRight_eq_div_pow]
  omega

/-- An input's word is that of an input. -/
theorem wordOfPorts_lt (x : Ports) : wordOfPorts x < 2048 := by
  have := x.cmd.isLt
  unfold wordOfPorts
  split <;> omega

end Sys2Proof
end

