-- ==== Sys2Proof/Laws/State.lean ====
section
/-! SUPPORT. What each operation of Machine/Ops.lean leaves in each field of the state: one lemma a field, true by rfl. -/

namespace Sys2Proof.Machine

@[simp] theorem State.emit_params (e : Event) (s : State) : (s.emit e).params = s.params := rfl
@[simp] theorem State.emit_st (e : Event) (s : State) : (s.emit e).st = s.st := rfl
@[simp] theorem State.emit_idx (e : Event) (s : State) : (s.emit e).idx = s.idx := rfl
@[simp] theorem State.emit_buf (e : Event) (s : State) : (s.emit e).buf = s.buf := rfl
@[simp] theorem State.emit_frm (e : Event) (s : State) : (s.emit e).frm = s.frm := rfl
@[simp] theorem State.emit_frmValid (e : Event) (s : State) : (s.emit e).frmValid = s.frmValid := rfl
@[simp] theorem State.emit_gap (e : Event) (s : State) : (s.emit e).gap = s.gap := rfl
@[simp] theorem State.emit_ev (e : Event) (s : State) : (s.emit e).ev = e := rfl
@[simp] theorem State.emit_inputs (e : Event) (s : State) : (s.emit e).inputs = s.inputs := rfl
@[simp] theorem State.emit_freeCount (e : Event) (s : State) : (s.emit e).freeCount = s.freeCount := rfl

@[simp] theorem State.startFrame_params (b : Byte) (s : State) : (s.startFrame b).params = s.params := rfl
@[simp] theorem State.startFrame_st (b : Byte) (s : State) : (s.startFrame b).st = .collect := rfl
@[simp] theorem State.startFrame_idx (b : Byte) (s : State) : (s.startFrame b).idx = 1 := rfl
@[simp] theorem State.startFrame_buf (b : Byte) (s : State) : (s.startFrame b).buf = s.buf.set 0 b := rfl
@[simp] theorem State.startFrame_frm (b : Byte) (s : State) : (s.startFrame b).frm = s.frm := rfl
@[simp] theorem State.startFrame_frmValid (b : Byte) (s : State) : (s.startFrame b).frmValid = s.frmValid := rfl
@[simp] theorem State.startFrame_gap (b : Byte) (s : State) : (s.startFrame b).gap = 0 := rfl
@[simp] theorem State.startFrame_ev (b : Byte) (s : State) : (s.startFrame b).ev = s.ev := rfl
@[simp] theorem State.startFrame_inputs (b : Byte) (s : State) : (s.startFrame b).inputs = s.inputs := rfl
@[simp] theorem State.startFrame_freeCount (b : Byte) (s : State) : (s.startFrame b).freeCount = s.freeCount := rfl

@[simp] theorem State.storeByte_params (b : Byte) (s : State) : (s.storeByte b).params = s.params := rfl
@[simp] theorem State.storeByte_st (b : Byte) (s : State) : (s.storeByte b).st = s.st := rfl
@[simp] theorem State.storeByte_idx (b : Byte) (s : State) : (s.storeByte b).idx = s.idx + 1 := rfl
@[simp] theorem State.storeByte_buf (b : Byte) (s : State) : (s.storeByte b).buf = s.buf.setIfInBounds s.idx.toNat b := rfl
@[simp] theorem State.storeByte_frm (b : Byte) (s : State) : (s.storeByte b).frm = s.frm := rfl
@[simp] theorem State.storeByte_frmValid (b : Byte) (s : State) : (s.storeByte b).frmValid = s.frmValid := rfl
@[simp] theorem State.storeByte_gap (b : Byte) (s : State) : (s.storeByte b).gap = 0 := rfl
@[simp] theorem State.storeByte_ev (b : Byte) (s : State) : (s.storeByte b).ev = s.ev := rfl
@[simp] theorem State.storeByte_inputs (b : Byte) (s : State) : (s.storeByte b).inputs = s.inputs := rfl
@[simp] theorem State.storeByte_freeCount (b : Byte) (s : State) : (s.storeByte b).freeCount = s.freeCount := rfl

@[simp] theorem State.storeLast_params (b : Byte) (s : State) : (s.storeLast b).params = s.params := rfl
@[simp] theorem State.storeLast_st (b : Byte) (s : State) : (s.storeLast b).st = s.st := rfl
@[simp] theorem State.storeLast_idx (b : Byte) (s : State) : (s.storeLast b).idx = s.idx := rfl
@[simp] theorem State.storeLast_buf (b : Byte) (s : State) : (s.storeLast b).buf = s.buf.set 21 b := rfl
@[simp] theorem State.storeLast_frm (b : Byte) (s : State) : (s.storeLast b).frm = s.frm := rfl
@[simp] theorem State.storeLast_frmValid (b : Byte) (s : State) : (s.storeLast b).frmValid = s.frmValid := rfl
@[simp] theorem State.storeLast_gap (b : Byte) (s : State) : (s.storeLast b).gap = s.gap := rfl
@[simp] theorem State.storeLast_ev (b : Byte) (s : State) : (s.storeLast b).ev = s.ev := rfl
@[simp] theorem State.storeLast_inputs (b : Byte) (s : State) : (s.storeLast b).inputs = s.inputs := rfl
@[simp] theorem State.storeLast_freeCount (b : Byte) (s : State) : (s.storeLast b).freeCount = s.freeCount := rfl

@[simp] theorem State.latchFrame_params (s : State) : s.latchFrame.params = s.params := rfl
@[simp] theorem State.latchFrame_st (s : State) : s.latchFrame.st = s.st := rfl
@[simp] theorem State.latchFrame_idx (s : State) : s.latchFrame.idx = s.idx := rfl
@[simp] theorem State.latchFrame_buf (s : State) : s.latchFrame.buf = s.buf := rfl
@[simp] theorem State.latchFrame_frm (s : State) : s.latchFrame.frm = s.buf := rfl
@[simp] theorem State.latchFrame_frmValid (s : State) : s.latchFrame.frmValid = true := rfl
@[simp] theorem State.latchFrame_gap (s : State) : s.latchFrame.gap = s.gap := rfl
@[simp] theorem State.latchFrame_ev (s : State) : s.latchFrame.ev = s.ev := rfl
@[simp] theorem State.latchFrame_inputs (s : State) : s.latchFrame.inputs = s.inputs := rfl
@[simp] theorem State.latchFrame_freeCount (s : State) : s.latchFrame.freeCount = s.freeCount := rfl

@[simp] theorem State.returnToHunt_params (s : State) : s.returnToHunt.params = s.params := rfl
@[simp] theorem State.returnToHunt_st (s : State) : s.returnToHunt.st = .hunt := rfl
@[simp] theorem State.returnToHunt_idx (s : State) : s.returnToHunt.idx = 0 := rfl
@[simp] theorem State.returnToHunt_buf (s : State) : s.returnToHunt.buf = s.buf := rfl
@[simp] theorem State.returnToHunt_frm (s : State) : s.returnToHunt.frm = s.frm := rfl
@[simp] theorem State.returnToHunt_frmValid (s : State) : s.returnToHunt.frmValid = s.frmValid := rfl
@[simp] theorem State.returnToHunt_gap (s : State) : s.returnToHunt.gap = 0 := rfl
@[simp] theorem State.returnToHunt_ev (s : State) : s.returnToHunt.ev = s.ev := rfl
@[simp] theorem State.returnToHunt_inputs (s : State) : s.returnToHunt.inputs = s.inputs := rfl
@[simp] theorem State.returnToHunt_freeCount (s : State) : s.returnToHunt.freeCount = s.freeCount := rfl

@[simp] theorem State.countTick_params (s : State) : s.countTick.params = s.params := rfl
@[simp] theorem State.countTick_st (s : State) : s.countTick.st = s.st := rfl
@[simp] theorem State.countTick_idx (s : State) : s.countTick.idx = s.idx := rfl
@[simp] theorem State.countTick_buf (s : State) : s.countTick.buf = s.buf := rfl
@[simp] theorem State.countTick_frm (s : State) : s.countTick.frm = s.frm := rfl
@[simp] theorem State.countTick_frmValid (s : State) : s.countTick.frmValid = s.frmValid := rfl
@[simp] theorem State.countTick_gap (s : State) : s.countTick.gap = s.gap + 1 := rfl
@[simp] theorem State.countTick_ev (s : State) : s.countTick.ev = s.ev := rfl
@[simp] theorem State.countTick_inputs (s : State) : s.countTick.inputs = s.inputs := rfl
@[simp] theorem State.countTick_freeCount (s : State) : s.countTick.freeCount = s.freeCount := rfl

@[simp] theorem State.resetBlock_params (s : State) : s.resetBlock.params = s.params := rfl
@[simp] theorem State.resetBlock_st (s : State) : s.resetBlock.st = .hunt := rfl
@[simp] theorem State.resetBlock_idx (s : State) : s.resetBlock.idx = 0 := rfl
@[simp] theorem State.resetBlock_buf (s : State) : s.resetBlock.buf = unspecifiedBuf s.freeCount := rfl
@[simp] theorem State.resetBlock_frm (s : State) : s.resetBlock.frm = zeroFrame := rfl
@[simp] theorem State.resetBlock_frmValid (s : State) : s.resetBlock.frmValid = false := rfl
@[simp] theorem State.resetBlock_gap (s : State) : s.resetBlock.gap = 0 := rfl
@[simp] theorem State.resetBlock_ev (s : State) : s.resetBlock.ev = s.ev := rfl
@[simp] theorem State.resetBlock_inputs (s : State) : s.resetBlock.inputs = s.inputs := rfl
@[simp] theorem State.resetBlock_freeCount (s : State) : s.resetBlock.freeCount = s.freeCount + 1 := rfl

@[simp] theorem State.resetWith_params (p : Params) : (State.resetWith p).params = p := rfl
@[simp] theorem State.resetWith_st (p : Params) : (State.resetWith p).st = .hunt := rfl
@[simp] theorem State.resetWith_idx (p : Params) : (State.resetWith p).idx = 0 := rfl
@[simp] theorem State.resetWith_buf (p : Params) : (State.resetWith p).buf = zeroFrame := rfl
@[simp] theorem State.resetWith_frm (p : Params) : (State.resetWith p).frm = zeroFrame := rfl
@[simp] theorem State.resetWith_frmValid (p : Params) : (State.resetWith p).frmValid = false := rfl
@[simp] theorem State.resetWith_gap (p : Params) : (State.resetWith p).gap = 0 := rfl
@[simp] theorem State.resetWith_ev (p : Params) : (State.resetWith p).ev = .none := rfl
@[simp] theorem State.resetWith_inputs (p : Params) : (State.resetWith p).inputs = [] := rfl
@[simp] theorem State.resetWith_freeCount (p : Params) : (State.resetWith p).freeCount = 0 := rfl

end Sys2Proof.Machine
end

