-- ==== Sys2Proof/Laws/Feed.lean ====
section
/-! SUPPORT. Everything a FEED can do (40_feed.md R80): one lemma for each of its five cases, and the inversion. -/

namespace Sys2Proof.Machine

theorem feed_hunt_other {b : Byte} {s : State} (h : s.st = .hunt) (hb : b ≠ markerByte s.params) :
    feed b s = s.emit .none := by
  simp [feed, feedHunt, h, hb]

theorem feed_hunt_marker {b : Byte} {s : State} (h : s.st = .hunt) (hb : b = markerByte s.params) :
    feed b s = (s.startFrame b).emit .none := by
  simp [feed, feedHunt, h, hb]

theorem feed_restart {b : Byte} {s : State} (h : s.st = .collect) (hr : restarts b s) :
    feed b s = (s.startFrame b).emit .errFramingMarker := by
  simp only [feed, h, feedCollect, if_pos hr]

theorem feed_store {b : Byte} {s : State} (h : s.st = .collect) (hr : ¬ restarts b s)
    (hi : s.idx.toNat ≤ 20) : feed b s = (s.storeByte b).emit .none := by
  simp only [feed, h, feedCollect, if_neg hr, if_pos hi]

theorem feed_complete {b : Byte} {s : State} (h : s.st = .collect) (hr : ¬ restarts b s)
    (hi : ¬ s.idx.toNat ≤ 20) : feed b s = completeFrame b s := by
  simp only [feed, h, feedCollect, if_neg hr, if_neg hi]

theorem completeFrame_match {b : Byte} {s : State}
    (h : checksumMatches s.params (s.buf.set 21 b) = true) :
    completeFrame b s = (s.storeLast b).latchFrame.returnToHunt.emit .valid := by
  simp [completeFrame, h]

theorem completeFrame_mismatch {b : Byte} {s : State}
    (h : checksumMatches s.params (s.buf.set 21 b) = false) :
    completeFrame b s = (s.storeLast b).returnToHunt.emit .errChecksum := by
  simp [completeFrame, h]

/-- A FEED does one of these, and nothing else. -/
theorem feed_cases (b : Byte) (s : State) :
    (s.st = .hunt ∧ b ≠ markerByte s.params ∧ feed b s = s.emit .none) ∨
    (s.st = .hunt ∧ b = markerByte s.params ∧ feed b s = (s.startFrame b).emit .none) ∨
    (s.st = .collect ∧ restarts b s ∧ feed b s = (s.startFrame b).emit .errFramingMarker) ∨
    (s.st = .collect ∧ ¬ restarts b s ∧ s.idx.toNat ≤ 20 ∧ feed b s = (s.storeByte b).emit .none) ∨
    (s.st = .collect ∧ ¬ restarts b s ∧ 20 < s.idx.toNat ∧
      checksumMatches s.params (s.buf.set 21 b) = true ∧
      feed b s = (s.storeLast b).latchFrame.returnToHunt.emit .valid) ∨
    (s.st = .collect ∧ ¬ restarts b s ∧ 20 < s.idx.toNat ∧
      checksumMatches s.params (s.buf.set 21 b) = false ∧
      feed b s = (s.storeLast b).returnToHunt.emit .errChecksum) := by
  cases h : s.st with
  | hunt =>
    by_cases hb : b = markerByte s.params
    · exact .inr (.inl ⟨rfl, hb, feed_hunt_marker h hb⟩)
    · exact .inl ⟨rfl, hb, feed_hunt_other h hb⟩
  | collect =>
    by_cases hr : restarts b s
    · exact .inr (.inr (.inl ⟨rfl, hr, feed_restart h hr⟩))
    by_cases hi : s.idx.toNat ≤ 20
    · exact .inr (.inr (.inr (.inl ⟨rfl, hr, hi, feed_store h hr hi⟩)))
    cases hm : checksumMatches s.params (s.buf.set 21 b) with
    | true =>
      exact .inr (.inr (.inr (.inr (.inl
        ⟨rfl, hr, by omega, rfl, (feed_complete h hr hi).trans (completeFrame_match hm)⟩))))
    | false =>
      exact .inr (.inr (.inr (.inr (.inr
        ⟨rfl, hr, by omega, rfl, (feed_complete h hr hi).trans (completeFrame_mismatch hm)⟩))))

end Sys2Proof.Machine
end

