-- ==== Sys2Proof/Laws/Tick.lean ====
section
/-! SUPPORT. Everything a TICK can do (43_tick_nop.md R130). -/

namespace Sys2Proof.Machine

/-- A TICK does one of these, and nothing else. -/
theorem tick_cases (s : State) :
    (s.st = .collect ∧ s.params.set.gapT ≠ 0 ∧ s.params.set.gapT ≤ s.gap.toNat + 1 ∧
      tick s = s.returnToHunt.emit .errFramingTimeout) ∨
    (s.st = .collect ∧ s.params.set.gapT ≠ 0 ∧ s.gap.toNat + 1 < s.params.set.gapT ∧
      tick s = s.countTick.emit .none) ∨
    ((s.st = .hunt ∨ s.params.set.gapT = 0) ∧ tick s = s.emit .none) := by
  by_cases h : s.st = .collect ∧ s.params.set.gapT ≠ 0
  · by_cases hg : s.params.set.gapT ≤ s.gap.toNat + 1
    · exact .inl ⟨h.1, h.2, hg, by simp [tick, h, hg]⟩
    · exact .inr (.inl ⟨h.1, h.2, by omega, by simp [tick, h, hg]⟩)
  · refine .inr (.inr ⟨?_, by simp only [tick, if_neg h]⟩)
    cases hs : s.st with
    | hunt => exact .inl rfl
    | collect => exact .inr (by simpa [hs] using h)

end Sys2Proof.Machine
end

