-- ==== Sys2Proof/Laws/Exec.lean ====
section
/-! SUPPORT. The meaning of each instruction as one equation, and what a next state of `exec` or of `step` can be. -/

namespace Sys2Proof.Machine

@[simp] theorem exec_nop (s : State) : exec .nop s = .next (s.emit .none) := rfl

@[simp] theorem exec_feed (b : Byte) (s : State) : exec (.feed b) s = .next (feed b s) := rfl

@[simp] theorem exec_tick (s : State) : exec .tick s = .next (tick s) := rfl

@[simp] theorem exec_rsvd (s : State) : exec .rsvd s = .refused .reservedCommand := rfl

@[simp] theorem exec_reset (s : State) : exec .reset s = .next (s.resetBlock.emit .none) := rfl

/-- Where `exec` answers a next state, the instruction is one of four and the state is the one its operation gives. -/
theorem exec_next_cases {i : Instr} {s t : State} (h : exec i s = .next t) :
    (i = .nop ∧ t = s.emit .none) ∨ (∃ b, i = .feed b ∧ t = feed b s) ∨
    (i = .tick ∧ t = tick s) ∨ (i = .reset ∧ t = s.resetBlock.emit .none) := by
  cases i with
  | nop => exact .inl ⟨rfl, by simpa using h.symm⟩
  | feed b => exact .inr (.inl ⟨b, rfl, by simpa using h.symm⟩)
  | tick => exact .inr (.inr (.inl ⟨rfl, by simpa using h.symm⟩))
  | rsvd => simp at h
  | reset => exact .inr (.inr (.inr ⟨rfl, by simpa using h.symm⟩))

/-- Where `step` answers a next state, an input was presented and its instruction ran. -/
theorem step_next_cases {s t : State} (h : step s = .next t) :
    ∃ x rest, s.inputs = x :: rest ∧ exec (decode x) { s with inputs := rest } = .next t := by
  unfold step at h
  split at h
  · simp at h
  · rename_i x rest hs; exact ⟨x, rest, hs, h⟩

end Sys2Proof.Machine
end

