-- ==== Sys2Proof/Laws/Environment.lean ====
section
/-! SUPPORT. What issuing a command to a channel does, and what the Byte Source gives. -/

namespace Sys2Proof.Machine

/-- A command that runs: the block goes on, and the consumer acts on its event in the same step. -/
theorem Channel.issue_of_next {i : Instr} {ch : Channel} {t : State} (h : exec i ch.block = .next t) :
    Channel.issue i ch = .next { ch with block := t, consumer := ch.consumer.act t } := by
  simp only [Channel.issue, h]

/-- Where issuing goes on, the command ran and the Byte Source is as it was. -/
theorem Channel.issue_next_cases {i : Instr} {ch ch' : Channel} (h : Channel.issue i ch = .next ch') :
    exec i ch.block = .next ch'.block ∧ ch'.consumer = ch.consumer.act ch'.block ∧ ch'.source = ch.source := by
  unfold Channel.issue at h
  split at h
  · rename_i t ht
    simp only [Host.Outcome.next.injEq] at h
    subst h
    exact ⟨ht, rfl, rfl⟩
  · simp at h
  · simp at h

/-- Where a channel comes up, its set was well-formed and its block is at reset. -/
theorem ChannelSetup.bringUp_next_cases {c : ChannelSetup} {ch : Channel} (h : c.bringUp = .next ch) :
    ∃ q : Params, c.params.check = .ok q ∧ ch = ⟨State.resetWith q, c.consumer, c.source⟩ := by
  unfold ChannelSetup.bringUp Sys2Proof.Machine.bringUp at h
  cases hc : c.params.check with
  | ok q => rw [hc] at h; exact ⟨q, rfl, by simpa using h.symm⟩
  | error e => rw [hc] at h; simp at h

/-- Where the channels of a non-empty list come up, the first does and the others do. -/
theorem bringUpChannels_cons {c : ChannelSetup} {cs : List ChannelSetup} {chs : List Channel}
    (h : bringUpChannels (c :: cs) = .next chs) :
    ∃ ch rest, c.bringUp = .next ch ∧ bringUpChannels cs = .next rest ∧ chs = ch :: rest := by
  simp only [bringUpChannels] at h
  split at h
  · rename_i ch hc
    split at h
    · rename_i rest hr
      exact ⟨ch, rest, hc, hr, by simpa using h.symm⟩
    · simp at h
    · simp at h
  · simp at h
  · simp at h

/-- Where a system starts, its channels came up and are one of R147's topologies. -/
theorem System.bringUp_next_cases {cs : List ChannelSetup} {y : System} (h : System.bringUp cs = .next y) :
    bringUpChannels cs = .next y.channels ∧ y.wellFormed = true := by
  unfold System.bringUp at h
  split at h
  · rename_i chs hc
    split at h
    · rename_i hw
      simp only [Host.Outcome.next.injEq] at h
      subst h
      exact ⟨hc, hw⟩
    · simp at h
  · simp at h
  · simp at h

@[simp] theorem ByteSource.read_nil (k : SourceKind) (ws : List Byte) :
    ByteSource.read ⟨k, [], ws⟩ = none := rfl

@[simp] theorem ByteSource.read_cons (k : SourceKind) (x : Byte) (xs ws : List Byte) :
    ByteSource.read ⟨k, x :: xs, ws⟩ = some (x, ⟨k, xs, ws⟩) := rfl

/-- A command to the system goes to one existing channel, or nowhere. -/
theorem System.issue_next_cases {k : Nat} {i : Instr} {y y' : System} (h : y.issue k i = .next y') :
    (y.channels[k]? = none ∧ y' = y) ∨
    (∃ ch ch', y.channels[k]? = some ch ∧ Channel.issue i ch = .next ch' ∧ y' = ⟨y.channels.set k ch'⟩) := by
  unfold System.issue at h
  split at h
  · rename_i hk
    simp only [Host.Outcome.next.injEq] at h
    exact .inl ⟨hk, h.symm⟩
  · rename_i ch hk
    split at h
    · rename_i ch' hi
      simp only [Host.Outcome.next.injEq] at h
      exact .inr ⟨ch, ch', hk, hi, h.symm⟩
    · simp at h
    · simp at h

end Sys2Proof.Machine
end

