-- ==== Sys2Proof/Laws/Frame.lean ====
section
/-! SUPPORT. Reading a frame position after a write, and frames that agree at every position. -/

namespace Sys2Proof.Machine

theorem byteAt_eq_getElem (f : Frame) {k : Nat} (h : k < 22) : byteAt f k = f[k] := by
  simp [byteAt, Vector.getElem?_eq_getElem h]

theorem byteAt_of_le (f : Frame) {k : Nat} (h : 22 ≤ k) : byteAt f k = 0 := by
  simp [byteAt, h]

@[simp] theorem byteAt_zeroFrame (k : Nat) : byteAt zeroFrame k = 0 := by
  rcases Nat.lt_or_ge k 22 with h | h
  · simp [byteAt_eq_getElem _ h, zeroFrame]
  · exact byteAt_of_le _ h

/-- Reading after a write at a fixed position. -/
theorem byteAt_set (f : Frame) (i : Nat) (hi : i < 22) (b : Byte) (k : Nat) :
    byteAt (f.set i b hi) k = if i = k then b else byteAt f k := by
  simp only [byteAt, Vector.getElem?_set]
  split <;> simp

/-- Reading after a write at a computed position; past 21 nothing is written. -/
theorem byteAt_setIfInBounds (f : Frame) (i : Nat) (b : Byte) (k : Nat) :
    byteAt (f.setIfInBounds i b) k = if i = k ∧ i < 22 then b else byteAt f k := by
  simp only [byteAt, Vector.getElem?_setIfInBounds]
  split
  · split <;> simp_all
  · rename_i h; simp [h]

/-- Frames that agree at every position are equal. -/
theorem frame_ext {f g : Frame} (h : ∀ k, k < 22 → byteAt f k = byteAt g k) : f = g := by
  apply Vector.ext
  intro k hk
  have := h k hk
  rwa [byteAt_eq_getElem _ hk, byteAt_eq_getElem _ hk] at this

/-- The frame's bytes in wire order. -/
theorem toList_eq_map_byteAt (f : Frame) : f.toList = (List.range 22).map (byteAt f) := by
  apply List.ext_getElem
  · simp
  · intro k h₁ h₂
    have hk : k < 22 := by simpa using h₁
    simp [byteAt_eq_getElem _ hk]

/-- The span of the checksum, position by position. -/
theorem take_toList_eq_map_byteAt (f : Frame) {n : Nat} (h : n ≤ 22) :
    f.toList.take n = (List.range n).map (byteAt f) := by
  rw [toList_eq_map_byteAt, ← List.map_take, List.take_range, Nat.min_eq_left h]

end Sys2Proof.Machine
end

