-- ==== Sys2Proof/Laws/Params.lean ====
section
/-! SUPPORT. What the checks of 00_scope.md R9 give the machine. -/

namespace Sys2Proof

/-- Every check holds of a well-formed set. -/
theorem Params.passes (p : Params) (c : ParamCheck) : p.set.passes c = true := by
  have h := p.wf
  simp only [ParamSet.wellFormed, ParamCheck.all, List.all_cons, List.all_nil, Bool.and_true,
    Bool.and_eq_true] at h
  cases c <;> simp [h]

theorem Params.cksEnd_cases (p : Params) : p.set.cksEnd = 20 ∨ p.set.cksEnd = 21 := by
  simpa [ParamSet.passes] using p.passes .cks

theorem Params.gapT_cases (p : Params) :
    p.set.gapT = 0 ∨ (2 ≤ p.set.gapT ∧ p.set.gapT ≤ 65535) := by
  simpa [ParamSet.passes] using p.passes .gap

theorem Params.crcPoly_odd (p : Params) (h : p.set.cksKind = .crc8) : p.set.crcPoly % 2 = 1 := by
  have := p.passes .crc
  simp [ParamSet.passes, h] at this
  exact this.2.2.2

/-- Every default-mode field lies within positions 1..20. -/
theorem Params.defaultField_bounds (p : Params) {f : Nat × Nat} (h : f ∈ p.set.defaultFields) :
    1 ≤ f.1 ∧ f.1 + f.2 ≤ 21 := by
  have := p.passes .field
  simp only [ParamSet.passes, Bool.and_eq_true, List.all_eq_true] at this
  simpa [ParamSet.inPayload] using this.1 f h

/-- Every settings-mode field lies within positions 1..20. -/
theorem Params.settingsField_bounds (p : Params) {f : Nat × Nat} (h : f ∈ p.set.settingsFields) :
    1 ≤ f.1 ∧ f.1 + f.2 ≤ 21 := by
  have := p.passes .field
  simp only [ParamSet.passes, Bool.and_eq_true, List.all_eq_true] at this
  simpa [ParamSet.inPayload] using this.2 f h

theorem Params.mode_bounds (p : Params) :
    1 ≤ p.set.modeOff ∧ p.set.modeOff ≤ 20 ∧ p.set.modeBit ≤ 7 ∧ p.set.modePol ≤ 1 := by
  simpa [ParamSet.passes] using p.passes .mode

end Sys2Proof
end

