-- ==== Sys2Proof/Laws/PerInstr.lean ====
section
/-! SUPPORT. One lemma per instruction: its input's `rst` line and the range of its word (30_encoding.md R60, R72). -/

namespace Sys2Proof.Laws.InputRange

/-- The instruction's input holds `rst = 1` exactly for RESET, and its word is that of an input. -/
def Statement (i : Instr) : Prop := ((encode i).rst = true ↔ i = .reset) ∧ encodeWord i < 2048

theorem nop : Statement .nop := by simp [Statement]; decide

theorem feed (b : Byte) : Statement (.feed b) := by
  refine ⟨by simp [encode], ?_⟩
  have := (encode (.feed b)).cmd.isLt
  simp only [encodeWord, wordOfPorts, encode] at this ⊢
  simp; omega

theorem tick : Statement .tick := by simp [Statement]; decide

theorem rsvd : Statement .rsvd := by simp [Statement]; decide

theorem reset : Statement .reset := by simp [Statement]; decide

end Sys2Proof.Laws.InputRange
end

