-- ==== Sys2Proof/Laws/Trace.lean ====
section
/-! SUPPORT. Traces command by command, and end to end. -/

namespace Sys2Proof.Machine

@[simp] theorem trace_nil (s : State) : trace [] s = some ([], s) := rfl

/-- A trace that begins with a command that runs. -/
theorem trace_cons {i : Instr} {s t : State} (h : exec i s = .next t) (is : List Instr) :
    trace (i :: is) s = (trace is t).map (fun r => (t.ev :: r.1, r.2)) := by
  simp only [trace, h]

/-- Two traces end to end. -/
theorem trace_append {is js : List Instr} {s t u : State} {es fs : List Event}
    (h₁ : trace is s = some (es, t)) (h₂ : trace js t = some (fs, u)) :
    trace (is ++ js) s = some (es ++ fs, u) := by
  induction is generalizing s es with
  | nil => simp at h₁; obtain ⟨rfl, rfl⟩ := h₁; simpa using h₂
  | cons i is ih =>
    simp only [List.cons_append, trace] at h₁ ⊢
    split at h₁
    · simp only [Option.map_eq_some_iff] at h₁
      obtain ⟨⟨es', u'⟩, hr, he⟩ := h₁
      simp only [Prod.mk.injEq] at he
      obtain ⟨rfl, rfl⟩ := he
      simp [ih hr]
    · simp at h₁
    · simp at h₁

end Sys2Proof.Machine
end

