-- ==== Sys2Proof/Tests/Slice0.lean ====
section
/-! SUPPORT. The model's own tests. Expected results come from 95_test_vectors.md (the vector's name stands beside each)
or by hand from the numbered rules; the witness_ theorems meet the hypotheses of the obligations, clause by clause. -/

namespace Sys2Proof.Tests

open Sys2Proof.Machine

-- ---------------------------------------------------------------- configurations and frames of 95_test_vectors.md

def tc0 : Params := { set := .tc0, wf := by decide }
def tc1 : Params := { set := .tc1, wf := by decide }
def tc2 : Params := { set := .tc2, wf := by decide }
def tc3 : Params := { set := .tc3, wf := by decide }
def tc4 : Params := { set := .tc4, wf := by decide }
def tcLe : Params := { set := { ParamSet.tc0 with fieldOrder := .le }, wf := by decide }
def tcCount : Params := { set := { ParamSet.tc0 with framingCounts := true }, wf := by decide }

/-- Frame A of TC0. -/
def frameA : Frame :=
  #v[0xAA, 0x03, 0xE8, 0x01, 0xF4, 0, 0, 0, 0, 0, 0, 0, 0, 0, 0, 0, 0, 0, 0, 0, 0, 0x8A]

/-- Frame B of TC0. -/
def frameB : Frame :=
  #v[0xAA, 0x04, 0x4C, 0x01, 0xF4, 0x02, 0, 0, 0, 0, 0, 0, 0, 0, 0, 0, 0, 0, 0, 0, 0, 0xF1]

/-- Frame E of TC0. -/
def frameE : Frame :=
  #v[0xAA, 0x0B, 0xB8, 0x03, 0x20, 0x05, 0, 0, 0, 0, 0, 0, 0, 0, 0, 0, 0, 0, 0, 0, 0, 0x95]

/-- Frame S of TC0. -/
def frameS : Frame :=
  #v[0xAA, 0, 0, 0, 0, 0, 0x01, 0x05, 0xDC, 0x0D, 0xAC, 0x5A, 0x64, 0x60, 0x6A, 0x66, 0x70, 0, 0, 0, 0, 0xA3]

/-- Frame Am of TC0: its checksum is the marker. -/
def frameAm : Frame :=
  #v[0xAA, 0x03, 0xE8, 0x01, 0xF4, 0, 0, 0, 0, 0, 0, 0, 0, 0, 0, 0, 0, 0, 0, 0, 0x20, 0xAA]

/-- Frame A1 of TC1. -/
def frameA1 : Frame :=
  #v[0xAA, 0x03, 0xE8, 0x01, 0xF4, 0, 0, 0, 0, 0, 0, 0, 0, 0, 0, 0, 0, 0, 0, 0, 0, 0xB8]

/-- Frame A4 of TC4. -/
def frameA4 : Frame :=
  #v[0xAA, 0x03, 0xE8, 0x01, 0xF4, 0, 0, 0, 0, 0, 0, 0, 0, 0, 0, 0, 0, 0, 0, 0, 0x33, 0x8A]

/-- A state in COLLECT that holds the first `n` bytes of a frame (the others of `BUF` are stale), with the GAP given. -/
def holding (p : Params) (f : Frame) (n : BitVec 5) (gap : BitVec 16) : State :=
  { State.resetWith p with st := .collect, idx := n, buf := f, gap := gap }

/-- What a test looks at: `(ST, IDX, GAP, FRM_VALID)` and the event. -/
def look (o : Host.Outcome State Fault Refusal) :
    Option (SyncState × BitVec 5 × BitVec 16 × Bool × Event) :=
  (nextState? o).map (fun t => (t.st, t.idx, t.gap, t.frmValid, t.ev))

-- ---------------------------------------------------------------- well-formedness: an ill-formed set for each check

theorem test_wf_tc0 : ParamSet.tc0.wellFormed = true := by decide
theorem test_wf_marker : { ParamSet.tc0 with marker := 256 }.firstFailing = some .marker := by decide
theorem test_wf_cks : { ParamSet.tc0 with cksEnd := 22 }.firstFailing = some .cks := by decide
theorem test_wf_crc : { ParamSet.tc1 with crcPoly := 0x06 }.firstFailing = some .crc := by decide
/-- V-N3 -/
theorem test_wf_gap : { ParamSet.tc2 with gapT := 1 }.firstFailing = some .gap := by decide
theorem test_wf_field : { ParamSet.tc0 with offErr := 21 }.firstFailing = some .field := by decide
theorem test_wf_overlap : { ParamSet.tc0 with offErr := 4 }.firstFailing = some .overlap := by decide
theorem test_wf_mode : { ParamSet.tc0 with modeBit := 8 }.firstFailing = some .mode := by decide
theorem test_wf_host : { ParamSet.tc0 with maxFeedsPerTick := 0 }.firstFailing = some .host := by decide
theorem test_wf_instr : Instr.rsvd.wellFormed = false ∧ Instr.tick.wellFormed = true := by decide

-- ---------------------------------------------------------------- decoding words written out from 30_encoding.md R60, R61

theorem test_decode_nop : decode ⟨false, 0b00_00000000#10⟩ = .nop ∧ decode ⟨false, 0b00_11111111#10⟩ = .nop := by
  decide
theorem test_decode_feed :
    decode ⟨false, 0b01_10101010#10⟩ = .feed 0xAA ∧ decode ⟨false, 0b01_00000001#10⟩ = .feed 0x01 := by decide
theorem test_decode_tick : decode ⟨false, 0b10_00000000#10⟩ = .tick ∧ decode ⟨false, 0b10_00000001#10⟩ = .tick := by
  decide
theorem test_decode_rsvd : decode ⟨false, 0b11_10101010#10⟩ = .rsvd := by decide
theorem test_decode_reset : decode ⟨true, 0b11_10101010#10⟩ = .reset ∧ decode ⟨true, 0b01_00000000#10⟩ = .reset := by
  decide
theorem test_decode_unused : decodeTableWord 16 0x800 = none := by decide

-- ---------------------------------------------------------------- one step of each instruction

/-- V-F5 -/
theorem test_feed_valid :
    look (exec (.feed 0x8A) (holding tc0 frameA 21 0)) = some (.hunt, 0, 0, true, .valid) := by decide
/-- V-F12 -/
theorem test_feed_clears_gap :
    look (exec (.feed 0x00) (holding tc2 frameA 6 2)) = some (.collect, 7, 0, false, .none) := by decide
/-- V-T4 -/
theorem test_tick_timeout :
    look (exec .tick (holding tc2 frameA 7 2)) = some (.hunt, 0, 0, false, .errFramingTimeout) := by decide
/-- V-T3 -/
theorem test_tick_counts : look (exec .tick (holding tc2 frameA 7 0)) = some (.collect, 7, 1, false, .none) := by
  decide
/-- V-N1 -/
theorem test_nop : look (exec .nop (holding tc2 frameA 7 1)) = some (.collect, 7, 1, false, .none) := by decide
/-- V-N2 -/
theorem test_rsvd : look (exec .rsvd (holding tc0 frameA 7 0)) = none := by decide
/-- V-R1 -/
theorem test_reset :
    look (exec .reset { holding tc0 frameA 9 0 with frm := frameA, frmValid := true }) =
      some (.hunt, 0, 0, false, .none) := by decide
theorem test_reset_clears_frm :
    (nextState? (exec .reset { holding tc0 frameA 9 0 with frm := frameA, frmValid := true })).map (fun t => t.frm)
      = some zeroFrame := by decide
/-- The first instruction after reset, whatever the open parameters are. -/
theorem test_first_step_runs :
    step (State.reset.withFetchWord 16 0x1AA) = exec (.feed 0xAA) State.reset := rfl

-- ---------------------------------------------------------------- the checksum and the decoded outputs

/-- V-K3, V-K10 -/
theorem test_sum8 : sum8 (List.replicate 21 0xFF) = 0xEB ∧ cks tc4 frameA4 = 0x8A := by decide
/-- V-K7, V-K8 -/
theorem test_crc8 : crc8 0x07 0 false 0 [0xAA] = 0x5F ∧ crc8 0x07 0 false 0 [1, 2, 3] = 0x48 := by
  decide +kernel
/-- V-K6 -/
theorem test_crc8_reflected :
    crc8 0x31 0 true 0 [0x31, 0x32, 0x33, 0x34, 0x35, 0x36, 0x37, 0x38, 0x39] = 0xA1 := by decide +kernel
/-- V-D3 -/
theorem test_decoded_settings :
    (decodeFields tc0 frameS).mode = true ∧ (decodeFields tc0 frameS).spdMin = 1500 ∧
    (decodeFields tc0 frameS).vin = #v[90, 96, 102] ∧ (decodeFields tc0 frameS).vout = #v[100, 106, 112] := by
  decide
/-- V-D4 -/
theorem test_decoded_le :
    (decodeFields tcLe frameA).rpm = 59395 ∧ (decodeFields tcLe frameA).ma = 62465 := by decide

-- ---------------------------------------------------------------- frames that can be received, and the invariants

/-- Decides what `ValidatedFrame` asks of a concrete frame. -/
def validated (p : Params) (f : Frame) : Bool :=
  (byteAt f 0 == markerByte p) && (cks p f == byteAt f 21) &&
  (p.set.lastMarkerRule == .asChecksum || byteAt f 21 != markerByte p) &&
  (List.range 20).all (fun k => byteAt f (k + 1) != markerByte p)

theorem validatedFrame_of_validated {p : Params} {f : Frame} (h : validated p f = true) :
    ValidatedFrame p f := by
  simp only [validated, Bool.and_eq_true, Bool.or_eq_true, beq_iff_eq, bne_iff_ne, List.all_eq_true,
    List.mem_range] at h
  obtain ⟨⟨⟨h0, hc⟩, hl⟩, hk⟩ := h
  refine ⟨h0, hc, fun hr => hl.resolve_left (by simp [hr]), fun k h1 h2 => ?_⟩
  have := hk (k - 1) (by omega)
  rwa [Nat.sub_add_cancel h1] at this

theorem frameA_validated : ValidatedFrame tc0 frameA := validatedFrame_of_validated (by decide)
theorem frameB_validated : ValidatedFrame tc0 frameB := validatedFrame_of_validated (by decide)
theorem frameS_validated : ValidatedFrame tc0 frameS := validatedFrame_of_validated (by decide)
theorem frameA_validated_tc3 : ValidatedFrame tc3 frameA := validatedFrame_of_validated (by decide)
theorem frameB_validated_tc3 : ValidatedFrame tc3 frameB := validatedFrame_of_validated (by decide)
theorem frameAm_validated_tc3 : ValidatedFrame tc3 frameAm := validatedFrame_of_validated (by decide)
theorem frameA4_validated : ValidatedFrame tc4 frameA4 := validatedFrame_of_validated (by decide)

/-- The state of V-F5 meets the invariants. -/
theorem holding_inv : Inv (holding tc0 frameA 21 0) where
  huntIffEmpty := by unfold HuntIffEmpty; decide
  collectHoldsMarker := fun _ => by decide
  huntGapZero := fun _ => rfl
  gapBelowLimit := ⟨fun _ => rfl, fun h => absurd h (by decide)⟩
  latchValidated := fun h => absurd h (by decide)
  latchZero := fun _ => rfl
  collectedClean := fun _ k h₁ h₂ => frameA_validated.2.2.2 k h₁ (Nat.le_of_lt_succ h₂)

-- ---------------------------------------------------------------- witnesses: parameters, encodings, the step

theorem witness_WellFormedParameters :
    ParamSet.tc1.wellFormed = true ∧ { ParamSet.tc2 with gapT := 1 }.wellFormed = false ∧
    ParamSet.tc1.cksKind = .crc8 := by decide
/-- V-N3, through bring-up. -/
theorem test_bringUp_refuses_gap :
    bringUp { ParamSet.tc2 with gapT := 1 } = .refused (.illFormedParameters .gap) := by rfl
theorem witness_ParametersStatic :
    exec .tick (holding tc2 frameA 7 1) = .next (tick (holding tc2 frameA 7 1)) ∧
    step ((holding tc0 frameA 7 0).load [.nop]) = .next (holding tc0 frameA 7 0) := ⟨rfl, rfl⟩
theorem witness_CommandSelector :
    (0x0FF#10).toNat / 256 = 0 ∧ (0x100#10).toNat / 256 = 1 ∧ (0x1FF#10).toNat / 256 = 1 ∧
    (0x200#10).toNat / 256 = 2 ∧ (0x2FF#10).toNat / 256 = 2 ∧ (0x300#10).toNat / 256 = 3 := by decide
theorem witness_EncodeOfDecode :
    (⟨false, 0x1FF⟩ : Ports).rst = false ∧ decode ⟨false, 0x1FF⟩ = .feed 0xFF ∧ 2048 ≤ 2048 := by decide
theorem witness_StepRunsDecodedInstruction :
    ((holding tc0 frameA 7 0).load [.reset, .tick]).inputs = ⟨true, 0⟩ :: [⟨false, 0x200⟩] ∧
    (⟨true, 0⟩ : Ports).rst = true := by decide
theorem witness_StepWithoutInputFaults : State.reset.inputs = [] := rfl
theorem witness_StepsRunTheTrace :
    (State.resetWith tc0).inputs = [] ∧
    trace [.feed 0x55] (State.resetWith tc0) = some ([Event.none], State.resetWith tc0) := ⟨rfl, by rfl⟩
theorem witness_EveryCommandCompletes : Instr.feed 0 ≠ .rsvd := by decide
theorem witness_EventsByCommand :
    (nextState? (exec (.feed 0x8A) (holding tc0 frameA 21 0))).map (fun t => (outputs t).ev) = some 1#3 ∧
    (nextState? (exec (.feed 0x8B) (holding tc0 frameA 21 0))).map (fun t => (outputs t).ev) = some 2#3 ∧
    (nextState? (exec (.feed 0xAA) (holding tc0 frameA 9 0))).map (fun t => (outputs t).ev) = some 3#3 ∧
    (nextState? (exec .tick (holding tc2 frameA 7 2))).map (fun t => (outputs t).ev) = some 4#3 := by decide

-- ---------------------------------------------------------------- witnesses: FEED

theorem witness_FeedHuntDiscards :
    (State.resetWith tc0).st = .hunt ∧ (0x55 : Byte) ≠ markerByte (State.resetWith tc0).params := by decide
theorem witness_FeedHuntMarkerBegins :
    (State.resetWith tc0).st = .hunt ∧ (0xAA : Byte) = markerByte (State.resetWith tc0).params := by decide
theorem witness_FeedCollectStores :
    let s := holding tc0 frameA 1 0
    let u := holding tc0 frameA 20 0
    (s.st = .collect ∧ 1 ≤ s.idx.toNat ∧ s.idx.toNat ≤ 20 ∧ (0x03 : Byte) ≠ markerByte s.params) ∧
    (u.st = .collect ∧ 1 ≤ u.idx.toNat ∧ u.idx.toNat ≤ 20 ∧ (0x00 : Byte) ≠ markerByte u.params) := by decide
theorem witness_FeedMarkerRestarts :
    let s := holding tc3 frameA 20 0
    let u := holding tc0 frameA 21 0
    (s.st = .collect ∧ (0xAA : Byte) = markerByte s.params ∧ 1 ≤ s.idx.toNat ∧ s.idx.toNat ≤ 20) ∧
    (u.st = .collect ∧ (0xAA : Byte) = markerByte u.params ∧ u.idx.toNat = 21 ∧
      u.params.set.lastMarkerRule = .restart) := by decide
theorem witness_FeedCompletesFrame :
    let s := holding tc0 frameA 21 0
    let u := holding tc3 frameA 21 0
    (s.st = .collect ∧ s.idx.toNat = 21 ∧
      ¬ ((0x8A : Byte) = markerByte s.params ∧ s.params.set.lastMarkerRule = .restart) ∧
      cks s.params (s.buf.set 21 0x8A) = 0x8A) ∧
    (u.st = .collect ∧ u.idx.toNat = 21 ∧
      ¬ ((0xAA : Byte) = markerByte u.params ∧ u.params.set.lastMarkerRule = .restart) ∧
      cks u.params (u.buf.set 21 0xAA) ≠ 0xAA) := by decide
theorem witness_MarkerAsLastByte :
    let s := holding tc0 frameAm 21 0
    let u := holding tc3 frameAm 21 0
    (s.st = .collect ∧ s.idx.toNat = 21 ∧ (0xAA : Byte) = markerByte s.params ∧
      s.params.set.lastMarkerRule = .restart) ∧
    (u.st = .collect ∧ u.idx.toNat = 21 ∧ (0xAA : Byte) = markerByte u.params ∧
      u.params.set.lastMarkerRule = .asChecksum) := by decide
theorem witness_FeedFrameCondition :
    let s := holding tc0 frameA 7 0
    exec (.feed 5) s = .next (feed 5 s) ∧ feedPosition 5 s = some 7 ∧ (feed 5 s).ev ≠ .valid ∧
    feedPosition 0xAA s = some 0 ∧ feedPosition 0x8A (holding tc0 frameA 21 0) = some 21 :=
  ⟨rfl, by decide⟩
theorem witness_LatchOnlyOnValid :
    let s := holding tc0 frameA 21 0
    exec (.feed 0x8A) s = .next (feed 0x8A s) ∧ (feed 0x8A s).ev = .valid ∧ (feed 0x8B s).ev ≠ .valid :=
  ⟨rfl, by decide⟩

-- ---------------------------------------------------------------- witnesses: TICK, NOP, the reserved command

theorem witness_TickCommand :
    let s := holding tc2 frameA 7 2
    let u := holding tc2 frameA 7 1
    (s.st = .collect ∧ s.params.set.gapT ≠ 0 ∧ s.params.set.gapT ≤ s.gap.toNat + 1) ∧
    (u.st = .collect ∧ u.params.set.gapT ≠ 0 ∧ u.gap.toNat + 1 < u.params.set.gapT) ∧
    (State.resetWith tc2).st = .hunt ∧ (holding tc0 frameA 7 0).params.set.gapT = 0 := by decide
theorem witness_TimeoutOnLastTick :
    let s := holding tc2 frameA 7 0
    s.st = .collect ∧ s.gap = 0 ∧ 2 ≤ s.params.set.gapT ∧ 1 < s.params.set.gapT ∧ 2 < s.params.set.gapT := by
  decide
theorem witness_TicksDisabled : (holding tc0 frameA 7 0).params.set.gapT = 0 := by decide
theorem witness_NopsAreInvisible :
    trace [.nop, .feed 0x55, .nop] (State.resetWith tc0) =
      some ([Event.none, Event.none, Event.none], State.resetWith tc0) := by rfl
theorem witness_ReservedCommandRefused :
    768 ≤ (0x300#10).toNat ∧ 768 ≤ (0x3FF#10).toNat ∧
    { State.resetWith tc0 with inputs := [⟨false, 0x3FF⟩] }.inputs = ⟨false, 0x3FF⟩ :: [] := by decide

-- ---------------------------------------------------------------- witnesses: checksum and decoded outputs

theorem witness_ChecksumSpan : tc0.set.cksKind = .sum8 ∧ tc1.set.cksKind = .crc8 := by decide
theorem witness_CrcParameters :
    tc1.set.cksKind = .crc8 ∧ tc0.set.cksKind = .sum8 ∧ tc3.set.cksKind = .sum8 ∧
    tc0.set.cksEnd = tc3.set.cksEnd := by decide
theorem witness_CrcIsAffine : ([0xAA, 0x03] : List Byte).length = ([0xFF, 0x80] : List Byte).length := by decide
theorem witness_OneByteChangeDetected :
    (tc0.set.cksEnd = 21 ∧ 0 < 22 ∧ (0 : Byte) ≠ byteAt frameA 0 ∧ cks tc0 frameA = byteAt frameA 21) ∧
    (tc1.set.cksEnd = 21 ∧ 21 < 22 ∧ (0 : Byte) ≠ byteAt frameA1 21 ∧ cks tc1 frameA1 = byteAt frameA1 21) := by
  decide +kernel
theorem witness_TwoByteChangeUndetectedBySum :
    tc0.set.cksKind = .sum8 ∧ 0 ≠ 20 ∧ 0 < tc0.set.cksEnd ∧ 20 < tc0.set.cksEnd := by decide
theorem witness_FieldExtraction : tc0.set.fieldOrder = .be ∧ tcLe.set.fieldOrder = .le := by decide
theorem witness_SettingsModeOutputs : 0 < 3 ∧ 2 < 3 := by decide
theorem witness_OutputsBeforeFirstValid :
    Inv (holding tc0 frameA 21 0) ∧ (holding tc0 frameA 21 0).frmValid = false := ⟨holding_inv, rfl⟩
theorem witness_OutputsStable :
    step ((holding tc0 frameA 7 0).load [.nop]) = .next (holding tc0 frameA 7 0) ∧
    (holding tc0 frameA 7 0).ev ≠ .valid ∧
    ∀ x rest, ((holding tc0 frameA 7 0).load [.nop]).inputs = x :: rest → x.rst = false := by
  refine ⟨rfl, by decide, fun x rest h => ?_⟩
  have : [encode .nop] = x :: rest := h
  rw [List.cons.injEq] at this
  rw [← this.1]; rfl

-- ---------------------------------------------------------------- witnesses: invariants and whole-machine rules

theorem witness_StepKeepsInvariants :
    let s := { holding tc0 frameA 21 0 with inputs := [encode (.feed 0x8A)] }
    Inv s ∧ step s = .next (feed 0x8A (holding tc0 frameA 21 0)) := by
  refine ⟨?_, rfl⟩
  have h := holding_inv
  exact ⟨h.1, h.2, h.3, h.4, h.5, h.6, h.7⟩
theorem witness_ReachableStatesSatisfyR27 : Reachable State.reset := Reachable.reset Config.params []
theorem witness_StaleBytesNeverMatter :
    AgreeUpToStale (holding tc0 frameA 5 0) (holding tc0 (frameA.set 5 0xFF) 5 0) ∧
    exec (.feed 0) (holding tc0 frameA 5 0) = .next (feed 0 (holding tc0 frameA 5 0)) := by
  refine ⟨⟨rfl, fun k hk => ?_⟩, rfl⟩
  have : k < 5 := hk
  simp only [holding, byteAt_set]
  rw [if_neg (by omega)]
theorem witness_ValidFramesAreClean :
    let s := holding tc0 frameA 21 0
    Inv s ∧ exec (.feed 0x8A) s = .next (feed 0x8A s) ∧ (feed 0x8A s).ev = .valid :=
  ⟨holding_inv, rfl, by decide⟩
theorem witness_ValidSpacing :
    (holding tc0 frameA 21 0).st = .collect ∧ (feed 0x8A (holding tc0 frameA 21 0)).ev = .valid ∧
    (State.resetWith tc0).st = .hunt ∧
    (trace (wire frameA) (State.resetWith tc0)).map (fun r => r.1.getLast?) = some (some .valid) := by
  refine ⟨rfl, by decide, rfl, by decide +kernel⟩

-- ---------------------------------------------------------------- witnesses: whole frames

theorem witness_WholeFrameReceived :
    (State.resetWith tc0).st = .hunt ∧ ValidatedFrame (State.resetWith tc0).params frameA ∧
    ValidatedFrame (State.resetWith tc3).params frameAm :=
  ⟨rfl, frameA_validated, frameAm_validated_tc3⟩
theorem witness_FramePseudoReceived :
    let payload : Vector Byte 20 := Vector.replicate 20 0x01
    (State.resetWith tc0).st = .hunt ∧ (∀ b ∈ payload.toList, b ≠ markerByte tc0) ∧
    frameChecksum tc0 payload ≠ markerByte tc0 := by decide
theorem witness_CorruptedByteOneChecksumError :
    (State.resetWith tc0).st = .hunt ∧ tc0.set.cksEnd = 21 ∧ ValidatedFrame tc0 frameA ∧
    ValidatedFrame tc0 frameB ∧
    ((0x04 : Byte) ≠ byteAt frameA 1 ∧ (0x04 : Byte) ≠ markerByte tc0) ∧
    ((0x8B : Byte) ≠ byteAt frameA 21 ∧ (0x8B : Byte) ≠ markerByte tc0) :=
  ⟨rfl, rfl, frameA_validated, frameB_validated, by decide⟩
theorem witness_ByteChangedToMarkerRestart :
    (State.resetWith tc0).st = .hunt ∧ tc0.set.lastMarkerRule = .restart ∧ ValidatedFrame tc0 frameA ∧
    ValidatedFrame tc0 frameB := ⟨rfl, rfl, frameA_validated, frameB_validated⟩
theorem witness_CorruptedMarkerSilent :
    (State.resetWith tc0).st = .hunt ∧ ValidatedFrame tc0 frameA ∧ byteAt frameA 21 ≠ markerByte tc0 ∧
    ValidatedFrame tc0 frameB ∧ (0x00 : Byte) ≠ markerByte tc0 :=
  ⟨rfl, frameA_validated, by decide, frameB_validated, by decide⟩
theorem witness_ByteChangedToMarkerAsChecksum :
    (State.resetWith tc3).st = .hunt ∧ tc3.set.lastMarkerRule = .asChecksum ∧ ValidatedFrame tc3 frameA ∧
    byteAt frameA 21 ≠ markerByte tc3 ∧ ValidatedFrame tc3 frameB :=
  ⟨rfl, rfl, frameA_validated_tc3, by decide, frameB_validated_tc3⟩
theorem witness_ShortSpanMissesByteTwenty :
    (State.resetWith tc4).st = .hunt ∧ tc4.set.cksEnd = 20 ∧ ValidatedFrame tc4 frameA4 ∧
    (0x34 : Byte) ≠ markerByte tc4 := ⟨rfl, rfl, frameA4_validated, by decide⟩

-- ---------------------------------------------------------------- witnesses: the environment

/-- A consumer that has counted nothing. -/
def freshConsumer : Consumer := ⟨0, 0, 0, 0, ⟨0, 0, #v[0, 0, 0], #v[0, 0, 0], 0⟩, 0⟩

/-- A hardware channel at reset. -/
def freshChannel (p : Params) (pending : List Byte) : Channel :=
  ⟨State.resetWith p, freshConsumer, ⟨.hardware, pending, []⟩⟩

/-- Issuing a command that runs, for the first clause of ConsumerActions. -/
theorem witness_ConsumerActions_issue :
    exec (.feed 0x8A) { freshChannel tc0 [] with block := holding tc0 frameA 21 0 }.block =
      .next (feed 0x8A (holding tc0 frameA 21 0)) := rfl
theorem witness_ConsumerActions :
    let r := State.resetWith tc0
    let d := { r with ev := .valid, frm := frameE }
    let e := { r with ev := .valid, frm := frameS }
    (d.ev = .valid ∧ (outputs d).decoded.mode = false) ∧ (e.ev = .valid ∧ (outputs e).decoded.mode = true) ∧
    { r with ev := .errChecksum }.ev = .errChecksum ∧ { r with ev := .errFramingMarker }.ev = .errFramingMarker ∧
    { r with ev := .errFramingTimeout }.ev = .errFramingTimeout ∧
    tcCount.set.framingCounts = true ∧ tc0.set.framingCounts = false ∧ r.ev = .none := by decide
/-- V-D2 and R144: what the consumer adds for frame E. -/
theorem test_consumer_reading :
    let c := freshConsumer.act { State.resetWith tc0 with ev := .valid, frm := frameE }
    c.totalRpm = 3000 ∧ c.totalMa = 800 ∧ c.readingCount = 1 ∧ c.errorStatus = 0x05 := by decide
theorem witness_ChannelsIndependent :
    let y : System := ⟨[freshChannel tc0 [], freshChannel tc3 []]⟩
    y.issue 0 .nop = .next y ∧ y.issue 2 .tick = .next y ∧ (1 : Nat) ≠ 0 ∧ y.channels.length ≤ 2 := by
  refine ⟨rfl, rfl, by decide, by decide⟩
/-- Two channels to be set up, one hardware and one software. -/
def twoSetups : List ChannelSetup :=
  [⟨{ ParamSet.tc0 with numChannels := 2 }, freshConsumer, ⟨.hardware, [], []⟩⟩,
   ⟨{ ParamSet.tc3 with numChannels := 2 }, freshConsumer, ⟨.software, [0xAA], []⟩⟩]

/-- What came up, channel by channel. -/
def startedBlocks : Host.Outcome System Fault Refusal → Option (List State)
  | .next y => some (y.channels.map (fun ch => ch.block))
  | .fault _ => none
  | .refused _ => none

theorem witness_ChannelsIndependent_start :
    startedBlocks (System.bringUp twoSetups) =
      some [State.resetWith { set := { ParamSet.tc0 with numChannels := 2 }, wf := by decide },
            State.resetWith { set := { ParamSet.tc3 with numChannels := 2 }, wf := by decide }] ∧
    twoSetups.length = 2 ∧
    (∀ c ∈ twoSetups, c.params.wellFormed = true ∧ c.params.numChannels = twoSetups.length) ∧
    (twoSetups.filter (fun c => decide (c.source.kind = .software))).length ≤ 1 := by decide
/-- Two software channels do not start (R147; log entry 14). -/
theorem test_bringUp_topology :
    System.bringUp (twoSetups.map (fun c => { c with source := ⟨.software, [], []⟩ })) =
      .refused .illFormedTopology := by rfl
/-- R147: a topology with two software channels is none of those listed. -/
theorem test_topology :
    let p : Params := { set := { ParamSet.tc0 with numChannels := 2 }, wf := by decide }
    let hw := freshChannel p []
    let sw := { hw with source := ⟨.software, [], []⟩ }
    (⟨[hw, sw]⟩ : System).wellFormed = true ∧ (⟨[sw, sw]⟩ : System).wellFormed = false := by decide
theorem witness_GoodFramesCountedOnce :
    (freshChannel tc0 []).block.st = .hunt ∧
    ∀ f ∈ [frameA, frameB], ValidatedFrame tc0 f ∧ (decodeFields tc0 f).mode = false := by
  refine ⟨rfl, fun f hf => ?_⟩
  simp only [List.mem_cons, List.not_mem_nil, or_false] at hf
  rcases hf with rfl | rfl
  · exact ⟨frameA_validated, by decide⟩
  · exact ⟨frameB_validated, by decide⟩
theorem witness_SettingsFrameOnlySnapshot :
    (freshChannel tc0 []).block.st = .hunt ∧ ValidatedFrame tc0 frameS ∧
    (decodeFields tc0 frameS).mode = true := ⟨rfl, frameS_validated, by decide⟩
theorem witness_RenderedLineParses :
    render (.feed 0xAA) = some "FEED 0xAA".toList ∧ render .reset = some "RESET".toList ∧
    parseLine "  TICK ; one tick".toList = some [.tick] := by decide

end Sys2Proof.Tests
end

/-! The statements of 00_scope.md: the checks of R9, what the field decoder reads (R111, R112), and the step (R12). -/

-- ---------------------------------------------------------------- the checks of R9, one condition each

namespace Sys2Proof

theorem FieldWidth.bytes_pos (w : FieldWidth) : 0 < w.bytes := by
  cases w <;> decide

namespace ParamSet

/-- A position that a field of the list `[off, off + w - 1]` covers. -/
def covers (f : Nat × Nat) (k : Nat) : Prop := f.1 ≤ k ∧ k < f.1 + f.2

/-- Fields of at least one byte are apart exactly when no position lies in both. -/
theorem apart_iff {f g : Nat × Nat} (hf : 0 < f.2) (hg : 0 < g.2) :
    apart f g = true ↔ ∀ k, ¬ (covers f k ∧ covers g k) := by
  simp only [apart, covers, decide_eq_true_eq]
  constructor
  · intro h k
    omega
  · intro h
    have hFirst := h f.1
    have hSecond := h g.1
    omega

theorem pairwiseApart_iff (l : List (Nat × Nat)) :
    pairwiseApart l = true ↔ l.Pairwise (fun f g => apart f g = true) := by
  induction l with
  | nil => simp [pairwiseApart]
  | cons f fs ih => simp [pairwiseApart, ih]

theorem defaultFields_width_pos (p : ParamSet) : ∀ f ∈ p.defaultFields, 0 < f.2 := by
  simp [defaultFields]

theorem settingsFields_width_pos (p : ParamSet) : ∀ f ∈ p.settingsFields, 0 < f.2 := by
  simp [settingsFields, FieldWidth.bytes_pos]

/-- No two fields of a list overlap exactly when no position lies in two of them. -/
theorem pairwiseApart_iff_noCommonPosition {l : List (Nat × Nat)} (hl : ∀ f ∈ l, 0 < f.2) :
    pairwiseApart l = true ↔ l.Pairwise (fun f g => ∀ k, ¬ (covers f k ∧ covers g k)) := by
  rw [pairwiseApart_iff]
  exact List.Pairwise.iff_of_mem fun hf hg => apart_iff (hl _ hf) (hl _ hg)

theorem passes_marker_iff (p : ParamSet) : p.passes .marker = true ↔ p.marker ≤ 255 := by
  simp only [passes, decide_eq_true_eq]
  omega

theorem passes_cks_iff (p : ParamSet) : p.passes .cks = true ↔ p.cksEnd = 20 ∨ p.cksEnd = 21 := by
  simp [passes]

theorem passes_crc_iff (p : ParamSet) :
    p.passes .crc = true ↔
      (p.cksKind = .crc8 → p.crcPoly ≤ 255 ∧ p.crcInit ≤ 255 ∧ p.crcXorOut ≤ 255 ∧ p.crcPoly % 2 = 1) := by
  cases h : p.cksKind with
  | sum8 => simp [passes, h]
  | crc8 =>
    simp only [passes, h, decide_eq_true_eq, true_imp_iff]
    omega

theorem passes_gap_iff (p : ParamSet) :
    p.passes .gap = true ↔ p.gapT = 0 ∨ (2 ≤ p.gapT ∧ p.gapT ≤ 65535) := by
  simp [passes]

theorem inPayload_iff (f : Nat × Nat) : inPayload f = true ↔ 1 ≤ f.1 ∧ f.1 + f.2 - 1 ≤ 20 := by
  simp [inPayload]

theorem passes_field_iff (p : ParamSet) :
    p.passes .field = true ↔
      ∀ f ∈ p.defaultFields ++ p.settingsFields, 1 ≤ f.1 ∧ f.1 + f.2 - 1 ≤ 20 := by
  simp only [passes, ← List.all_append, List.all_eq_true, inPayload_iff]

theorem passes_overlap_iff (p : ParamSet) :
    p.passes .overlap = true ↔
      p.defaultFields.Pairwise (fun f g => ∀ k, ¬ (covers f k ∧ covers g k)) ∧
      p.settingsFields.Pairwise (fun f g => ∀ k, ¬ (covers f k ∧ covers g k)) := by
  simp only [passes, Bool.and_eq_true,
    pairwiseApart_iff_noCommonPosition p.defaultFields_width_pos,
    pairwiseApart_iff_noCommonPosition p.settingsFields_width_pos]

theorem passes_mode_iff (p : ParamSet) :
    p.passes .mode = true ↔
      1 ≤ p.modeOff ∧ p.modeOff ≤ 20 ∧ p.modeBit ≤ 7 ∧ (p.modePol = 0 ∨ p.modePol = 1) := by
  simp only [passes, decide_eq_true_eq, Nat.le_one_iff_eq_zero_or_eq_one]

theorem passes_host_iff (p : ParamSet) :
    p.passes .host = true ↔
      (p.numChannels = 1 ∨ p.numChannels = 2) ∧ 1 ≤ p.maxFeedsPerTick.toNat := by
  simp only [passes, decide_eq_true_eq]

theorem wellFormed_iff_passes (p : ParamSet) :
    p.wellFormed = true ↔
      p.passes .marker = true ∧ p.passes .cks = true ∧ p.passes .crc = true ∧ p.passes .gap = true ∧
      p.passes .field = true ∧ p.passes .overlap = true ∧ p.passes .mode = true ∧
      p.passes .host = true := by
  simp [wellFormed, ParamCheck.all]

-- ---------------------------------------------------------------- the check of a whole set, and bring-up (R183)

theorem firstFailing_eq_none_iff (p : ParamSet) : p.firstFailing = none ↔ p.wellFormed = true := by
  simp [firstFailing, wellFormed]

theorem passes_of_firstFailing {p : ParamSet} {c : ParamCheck} (h : p.firstFailing = some c) :
    p.passes c = false := by
  simpa using List.find?_some h

theorem check_of_wellFormed {p : ParamSet} (h : p.wellFormed = true) : p.check = .ok ⟨p, h⟩ := by
  have hnone := p.firstFailing_eq_none_iff.mpr h
  unfold check
  split
  next c hc => simp [hnone] at hc
  next => rfl

theorem check_of_firstFailing {p : ParamSet} {c : ParamCheck} (h : p.firstFailing = some c) :
    p.check = .error c := by
  unfold check
  split
  next d hd => simpa [h] using hd.symm
  next hnone => simp [h] at hnone

end ParamSet

namespace Machine

theorem bringUp_of_wellFormed {p : ParamSet} (h : p.wellFormed = true) :
    bringUp p = .next (State.resetWith ⟨p, h⟩) := by
  simp [bringUp, ParamSet.check_of_wellFormed h]

/-- An ill-formed set is refused by the first check it fails. -/
theorem bringUp_of_not_wellFormed {p : ParamSet} (h : p.wellFormed = false) :
    ∃ c, p.passes c = false ∧ bringUp p = .refused (.illFormedParameters c) := by
  cases hc : p.firstFailing with
  | none => simp [p.firstFailing_eq_none_iff.mp hc] at h
  | some c =>
    exact ⟨c, ParamSet.passes_of_firstFailing hc, by simp [bringUp, ParamSet.check_of_firstFailing hc]⟩

-- ---------------------------------------------------------------- the field decoder reads positions 1..20 alone

/-- The frames hold the same bytes at positions 1..20, where R9 puts every field. -/
def SamePayload (f g : Frame) : Prop := ∀ k, 1 ≤ k → k ≤ 20 → byteAt f k = byteAt g k

theorem samePayload_set_ends (f : Frame) (b c : Byte) : SamePayload ((f.set 0 b).set 21 c) f := by
  intro k h₁ h₂
  rw [byteAt_set, if_neg (by omega), byteAt_set, if_neg (by omega)]

theorem fld_congr (p : Params) {f g : Frame} (h : SamePayload f g) {off : Nat} {w : FieldWidth}
    (hw : 1 ≤ off ∧ off + w.bytes ≤ 21) : fld p f off w = fld p g off w := by
  obtain ⟨hlo, hhi⟩ := hw
  cases w with
  | one =>
    rw [FieldWidth.bytes] at hhi
    simp only [fld, h off hlo (by omega)]
  | two =>
    rw [FieldWidth.bytes] at hhi
    simp only [fld, h off hlo (by omega), h (off + 1) (by omega) (by omega)]

theorem isSettings_congr (p : Params) {f g : Frame} (h : SamePayload f g) :
    isSettings p f = isSettings p g := by
  obtain ⟨hlo, hhi, -, -⟩ := p.mode_bounds
  simp only [isSettings, h _ hlo hhi]

/-- A one-byte field, read as a byte. -/
theorem byteAt_congr {f g : Frame} (h : SamePayload f g) {off : Nat} (hw : 1 ≤ off ∧ off + 1 ≤ 21) :
    byteAt f off = byteAt g off :=
  h off hw.1 (by omega)

/-- Frames with the same payload decode alike: every field of R9 lies within positions 1..20. -/
theorem decodeFields_congr (p : Params) {f g : Frame} (h : SamePayload f g) :
    decodeFields p f = decodeFields p g := by
  have hd := fun a => p.defaultField_bounds (f := a)
  have hs := fun a => p.settingsField_bounds (f := a)
  simp only [ParamSet.defaultFields, List.forall_mem_cons] at hd
  simp only [ParamSet.settingsFields, List.forall_mem_cons] at hs
  obtain ⟨hRpm, hMa, hErr, -⟩ := hd
  obtain ⟨hMin, hMax, hIn0, hIn1, hIn2, hOut0, hOut1, hOut2, hMode, -⟩ := hs
  simp only [decodeFields, isSettings_congr p h, fld_congr p h (w := .two) hRpm,
    fld_congr p h (w := .two) hMa, byteAt_congr h hErr, fld_congr p h hMin, fld_congr p h hMax,
    fld_congr p h hIn0, fld_congr p h hIn1, fld_congr p h hIn2, fld_congr p h hOut0,
    fld_congr p h hOut1, fld_congr p h hOut2, byteAt_congr h hMode]

-- ---------------------------------------------------------------- the step, by what is presented

theorem step_of_inputs_cons {s : State} {x : Ports} {rest : List Ports} (h : s.inputs = x :: rest) :
    step s = exec (decode x) { s with inputs := rest } := by
  simp [step, h]

theorem step_of_inputs_nil {s : State} (h : s.inputs = []) : step s = .fault .noInput := by
  simp [step, h]

end Machine

theorem decode_of_rst {x : Ports} (h : x.rst = true) : decode x = .reset := by
  simp [decode, h]

end Sys2Proof

-- ---------------------------------------------------------------- the obligations

namespace Sys2Proof.Proofs

open Sys2Proof.Machine

/-- Settles O3: check by check against R9's table, and bring-up by the first check that fails. -/
theorem wellFormedParameters : Obligations.WellFormedParameters := by
  intro p
  refine ⟨fun h => ⟨⟨p, h⟩, rfl, bringUp_of_wellFormed h⟩, bringUp_of_not_wellFormed, ?_⟩
  rw [p.wellFormed_iff_passes, p.passes_marker_iff, p.passes_cks_iff, p.passes_crc_iff,
    p.passes_gap_iff, p.passes_field_iff, p.passes_overlap_iff, p.passes_mode_iff, p.passes_host_iff]
  exact Iff.rfl

/-- Settles O39: the frame keeps its payload, and no field reads outside it. -/
theorem fieldsReadPayloadOnly : Obligations.FieldsReadPayloadOnly :=
  fun p f b c => decodeFields_congr p (samePayload_set_ends f b c)

/-- Settles O9: the step's equation, with `rst = 1` decoding to RESET. -/
theorem stepRunsDecodedInstruction : Obligations.StepRunsDecodedInstruction := by
  intro s x rest h
  have hstep := step_of_inputs_cons h
  exact ⟨hstep, fun hrst => decode_of_rst hrst ▸ hstep⟩

/-- Settles O10: a step with nothing presented is the fault. -/
theorem stepWithoutInputFaults : Obligations.StepWithoutInputFaults :=
  fun _ h => step_of_inputs_nil h

end Sys2Proof.Proofs

/-! The statements of 10_state.md: the reset state (R33), the invariants I1 to I6 (R27), and the bytes of `BUF` at positions
from `IDX` on (R23). -/

namespace Sys2Proof.Machine

variable {s s' t : State} {b : Byte}

-- ---------------------------------------------------------------- what a FEED that does not restart was given

theorem ne_marker_of_not_restarts (hr : ¬ restarts b s) (hi : s.idx.toNat ≤ 20) :
    b ≠ markerByte s.params :=
  fun hb => hr ⟨hb, .inl hi⟩

theorem ne_marker_of_not_restarts_of_restart (hr : ¬ restarts b s)
    (hrule : s.params.set.lastMarkerRule = .restart) : b ≠ markerByte s.params :=
  fun hb => hr ⟨hb, .inr hrule⟩

theorem checksumMatches_iff (p : Params) (f : Frame) :
    checksumMatches p f = true ↔ cks p f = byteAt f 21 := by
  simp [checksumMatches, checksumByte]

-- ---------------------------------------------------------------- what each operation keeps of the invariants

theorem gapBelowLimit_of_gap_eq_zero (h : s.gap = 0) : GapBelowLimit s :=
  ⟨fun _ => h, fun hT => by rw [h]; simp; omega⟩

/-- Hunting with nothing collected, only what the latch holds is left to show. -/
theorem inv_of_hunt (hst : s.st = .hunt) (hidx : s.idx = 0) (hgap : s.gap = 0)
    (hvalid : LatchValidated s) (hzero : LatchZero s) : Inv s where
  huntIffEmpty := iff_of_true hst hidx
  collectHoldsMarker := fun h => by simp [hst] at h
  huntGapZero := fun _ => hgap
  gapBelowLimit := gapBelowLimit_of_gap_eq_zero hgap
  latchValidated := hvalid
  latchZero := hzero
  collectedClean := fun h => by simp [hst] at h

theorem inv_resetWith (p : Params) : Inv (State.resetWith p) :=
  inv_of_hunt rfl rfl rfl (by simp [LatchValidated]) (by simp [LatchZero])

theorem inv_resetBlock (s : State) : Inv s.resetBlock :=
  inv_of_hunt rfl rfl rfl (by simp [LatchValidated]) (by simp [LatchZero])

/-- No invariant reads the event. -/
theorem Inv.emit (h : Inv s) (e : Event) : Inv (s.emit e) := { h with }

/-- No invariant reads the inputs to come. -/
theorem Inv.withInputs (h : Inv s) (l : List Ports) : Inv { s with inputs := l } := { h with }

theorem Inv.returnToHunt (h : Inv s) : Inv s.returnToHunt :=
  inv_of_hunt rfl rfl rfl h.latchValidated h.latchZero

theorem Inv.startFrame (h : Inv s) (hb : b = markerByte s.params) : Inv (s.startFrame b) where
  huntIffEmpty := by simp [HuntIffEmpty]
  collectHoldsMarker := fun _ => by simp [byteAt_set, hb]
  huntGapZero := by simp [HuntGapZero]
  gapBelowLimit := gapBelowLimit_of_gap_eq_zero rfl
  latchValidated := h.latchValidated
  latchZero := h.latchZero
  collectedClean := fun _ k hk hlt => by simp at hlt; omega

/-- A byte that is no marker is stored at `IDX`, and the collected bytes stay clean (R83). -/
theorem Inv.storeByte (h : Inv s) (hst : s.st = .collect) (hi : s.idx.toNat ≤ 20)
    (hb : b ≠ markerByte s.params) : Inv (s.storeByte b) := by
  obtain ⟨hpos, -, hmarker⟩ := h.collectHoldsMarker hst
  have hsucc := idx_succ_toNat hi
  have hne : s.idx + 1 ≠ 0 := fun h0 => by rw [h0] at hsucc; simp at hsucc
  refine ⟨iff_of_false (by simp [hst]) hne, fun _ => ⟨?_, ?_, ?_⟩, fun _ => rfl,
    gapBelowLimit_of_gap_eq_zero rfl, h.latchValidated, h.latchZero, fun _ k hk hlt => ?_⟩
  · rw [State.storeByte_idx]; omega
  · rw [State.storeByte_idx]; omega
  · rw [State.storeByte_buf, byteAt_setIfInBounds, if_neg (by omega)]
    exact hmarker
  · rw [State.storeByte_idx] at hlt
    rw [State.storeByte_buf, byteAt_setIfInBounds]
    split
    · exact hb
    · exact h.collectedClean hst k hk (by omega)

/-- Position 21 is above every byte collected, since `IDX <= 21`. -/
theorem Inv.storeLast (h : Inv s) (b : Byte) : Inv (s.storeLast b) where
  huntIffEmpty := h.huntIffEmpty
  collectHoldsMarker := fun hst => by simpa [byteAt_set] using h.collectHoldsMarker hst
  huntGapZero := h.huntGapZero
  gapBelowLimit := h.gapBelowLimit
  latchValidated := h.latchValidated
  latchZero := h.latchZero
  collectedClean := fun hst k hk hlt => by
    obtain ⟨-, hmax, -⟩ := h.collectHoldsMarker hst
    rw [State.storeLast_idx] at hlt
    rw [State.storeLast_buf, byteAt_set, if_neg (by omega)]
    exact h.collectedClean hst k hk hlt

theorem Inv.latchFrame (h : Inv s) (hf : ValidatedFrame s.params s.buf) : Inv s.latchFrame where
  huntIffEmpty := h.huntIffEmpty
  collectHoldsMarker := h.collectHoldsMarker
  huntGapZero := h.huntGapZero
  gapBelowLimit := h.gapBelowLimit
  latchValidated := fun _ => hf
  latchZero := by simp [LatchZero]
  collectedClean := h.collectedClean

/-- A TICK counts only below `GAP_T`, so `GAP` neither reaches it nor wraps (R130). -/
theorem Inv.countTick (h : Inv s) (hst : s.st = .collect)
    (hgap : s.gap.toNat + 1 < s.params.set.gapT) : Inv s.countTick where
  huntIffEmpty := h.huntIffEmpty
  collectHoldsMarker := h.collectHoldsMarker
  huntGapZero := fun hhunt => by simp [hst] at hhunt
  gapBelowLimit := by
    have hT := s.params.gapT_cases
    have hsucc : (s.gap + 1).toNat = s.gap.toNat + 1 := gap_succ_toNat (by omega)
    simp only [GapBelowLimit, State.countTick_params, State.countTick_gap, hsucc]
    exact ⟨fun h0 => by omega, fun _ => hgap⟩
  latchValidated := h.latchValidated
  latchZero := h.latchZero
  collectedClean := h.collectedClean

-- ---------------------------------------------------------------- every command keeps the invariants

/-- The frame that the 22nd byte completes is a validated one when its checksum matches (R85, R91). -/
theorem Inv.validatedFrame_of_complete (h : Inv s) (hst : s.st = .collect) (hr : ¬ restarts b s)
    (hi : 20 < s.idx.toNat) (hm : checksumMatches s.params (s.buf.set 21 b) = true) :
    ValidatedFrame s.params (s.buf.set 21 b) := by
  have hlast := h.storeLast b
  obtain ⟨-, -, hmarker⟩ := hlast.collectHoldsMarker hst
  refine ⟨hmarker, (checksumMatches_iff _ _).mp hm, fun hrule => ?_, fun k hk hle => ?_⟩
  · simpa [byteAt_set] using ne_marker_of_not_restarts_of_restart hr hrule
  · exact hlast.collectedClean hst k hk (by rw [State.storeLast_idx]; omega)

theorem Inv.feed (h : Inv s) (b : Byte) : Inv (feed b s) := by
  obtain ⟨-, -, heq⟩ | ⟨-, hb, heq⟩ | ⟨-, ⟨hb, -⟩, heq⟩ | ⟨hst, hr, hi, heq⟩ |
    ⟨hst, hr, hi, hm, heq⟩ | ⟨-, -, -, -, heq⟩ := feed_cases b s <;> rw [heq] <;> apply Inv.emit
  · exact h
  · exact h.startFrame hb
  · exact h.startFrame hb
  · exact h.storeByte hst hi (ne_marker_of_not_restarts hr hi)
  · exact ((h.storeLast b).latchFrame (h.validatedFrame_of_complete hst hr hi hm)).returnToHunt
  · exact (h.storeLast b).returnToHunt

theorem Inv.tick (h : Inv s) : Inv (tick s) := by
  obtain ⟨-, -, -, heq⟩ | ⟨hst, -, hgap, heq⟩ | ⟨-, heq⟩ := tick_cases s <;> rw [heq] <;>
    apply Inv.emit
  · exact h.returnToHunt
  · exact h.countTick hst hgap
  · exact h

theorem Inv.exec {i : Instr} (h : Inv s) (hx : exec i s = .next t) : Inv t := by
  obtain ⟨-, rfl⟩ | ⟨b, -, rfl⟩ | ⟨-, rfl⟩ | ⟨-, rfl⟩ := exec_next_cases hx
  · exact h.emit .none
  · exact h.feed b
  · exact h.tick
  · exact (inv_resetBlock s).emit .none

theorem Inv.step (h : Inv s) (hx : step s = .next t) : Inv t := by
  obtain ⟨x, rest, -, hexec⟩ := step_next_cases hx
  exact (h.withInputs rest).exec hexec

theorem Reachable.inv (h : Reachable s) : Inv s := by
  induction h with
  | reset p inputs => exact (inv_resetWith p).withInputs inputs
  | step _ hx ih => exact ih.step hx

-- ---------------------------------------------------------------- states that differ only in stale bytes of BUF

namespace AgreeUpToStale

theorem refl (s : State) : AgreeUpToStale s s := ⟨rfl, fun _ _ => rfl⟩

/-- Of a state, only bytes of `BUF` from `IDX` on are free: it is the other state with some frame in `BUF`. -/
theorem iff_exists : AgreeUpToStale s s' ↔
    ∃ g : Frame, s' = { s with buf := g } ∧ ∀ k, k < s.idx.toNat → byteAt g k = byteAt s.buf k := by
  constructor
  · exact fun ⟨heq, hbuf⟩ => ⟨s'.buf, heq, hbuf⟩
  · rintro ⟨g, rfl, hbuf⟩
    exact ⟨rfl, hbuf⟩

/-- The output ports read no byte of `BUF` (R66). -/
theorem outputs_eq (h : AgreeUpToStale s s') : outputs s' = outputs s := by
  obtain ⟨g, rfl, -⟩ := iff_exists.mp h
  rfl

theorem emit (h : AgreeUpToStale s s') (e : Event) : AgreeUpToStale (s.emit e) (s'.emit e) := by
  obtain ⟨g, rfl, hbuf⟩ := iff_exists.mp h
  exact ⟨rfl, hbuf⟩

theorem countTick (h : AgreeUpToStale s s') : AgreeUpToStale s.countTick s'.countTick := by
  obtain ⟨g, rfl, hbuf⟩ := iff_exists.mp h
  exact ⟨rfl, hbuf⟩

/-- With `IDX = 0` every byte is stale. -/
theorem returnToHunt (h : AgreeUpToStale s s') : AgreeUpToStale s.returnToHunt s'.returnToHunt := by
  obtain ⟨g, rfl, -⟩ := iff_exists.mp h
  exact ⟨rfl, fun k hk => by simp at hk⟩

/-- The one byte below `IDX = 1` is the byte just written. -/
theorem startFrame (h : AgreeUpToStale s s') (b : Byte) :
    AgreeUpToStale (s.startFrame b) (s'.startFrame b) := by
  obtain ⟨g, rfl, -⟩ := iff_exists.mp h
  refine ⟨rfl, fun k hk => ?_⟩
  obtain rfl : k = 0 := by simpa using hk
  simp [byteAt_set]

/-- The byte that joins the collected ones is the byte just written. -/
theorem storeByte (h : AgreeUpToStale s s') (b : Byte) (hi : s.idx.toNat ≤ 20) :
    AgreeUpToStale (s.storeByte b) (s'.storeByte b) := by
  obtain ⟨g, rfl, hbuf⟩ := iff_exists.mp h
  refine ⟨rfl, fun k hk => ?_⟩
  rw [State.storeByte_idx, idx_succ_toNat hi] at hk
  simp only [State.storeByte_buf, byteAt_setIfInBounds]
  split
  · rfl
  · exact hbuf k (by omega)

/-- The 22nd byte leaves no stale byte: the completed frames are equal, and the states with them. -/
theorem storeLast_eq (h : AgreeUpToStale s s') (b : Byte) (hi : 20 < s.idx.toNat) :
    s'.storeLast b = s.storeLast b := by
  obtain ⟨g, rfl, hbuf⟩ := iff_exists.mp h
  have hframe : g.set 21 b = s.buf.set 21 b := frame_ext fun k hk => by
    rw [byteAt_set, byteAt_set]
    split
    · rfl
    · exact hbuf k (by omega)
  simp only [State.storeLast, hframe]

/-- RESET reads no byte of `BUF`. -/
theorem resetBlock_eq (h : AgreeUpToStale s s') : s'.resetBlock = s.resetBlock := by
  obtain ⟨g, rfl, -⟩ := iff_exists.mp h
  rfl

end AgreeUpToStale

-- ---------------------------------------------------------------- every command keeps the agreement

theorem completeFrame_congr (h : s'.storeLast b = s.storeLast b) :
    completeFrame b s' = completeFrame b s := by
  simp only [completeFrame, h]

theorem AgreeUpToStale.feed (h : AgreeUpToStale s s') (b : Byte) :
    AgreeUpToStale (feed b s) (feed b s') := by
  obtain ⟨hst', hidx', hparams'⟩ : s'.st = s.st ∧ s'.idx = s.idx ∧ s'.params = s.params := by
    obtain ⟨g, rfl, -⟩ := iff_exists.mp h
    exact ⟨rfl, rfl, rfl⟩
  have hrestarts : restarts b s' ↔ restarts b s := by simp only [restarts, hidx', hparams']
  cases hst : s.st with
  | hunt =>
    rw [hst] at hst'
    by_cases hb : b = markerByte s.params
    · rw [feed_hunt_marker hst hb, feed_hunt_marker hst' (hparams' ▸ hb)]
      exact (h.startFrame b).emit .none
    · rw [feed_hunt_other hst hb, feed_hunt_other hst' (hparams' ▸ hb)]
      exact h.emit .none
  | collect =>
    rw [hst] at hst'
    by_cases hr : restarts b s
    · rw [feed_restart hst hr, feed_restart hst' (hrestarts.mpr hr)]
      exact (h.startFrame b).emit .errFramingMarker
    have hr' := mt hrestarts.mp hr
    by_cases hi : s.idx.toNat ≤ 20
    · rw [feed_store hst hr hi, feed_store hst' hr' (hidx' ▸ hi)]
      exact (h.storeByte b hi).emit .none
    · rw [feed_complete hst hr hi, feed_complete hst' hr' (hidx' ▸ hi),
        completeFrame_congr (h.storeLast_eq b (by omega))]
      exact .refl _

theorem AgreeUpToStale.tick (h : AgreeUpToStale s s') : AgreeUpToStale (tick s) (tick s') := by
  obtain ⟨hst', hgap', hparams'⟩ : s'.st = s.st ∧ s'.gap = s.gap ∧ s'.params = s.params := by
    obtain ⟨g, rfl, -⟩ := iff_exists.mp h
    exact ⟨rfl, rfl, rfl⟩
  simp only [Machine.tick, hst', hgap', hparams']
  split
  · split
    · exact h.returnToHunt.emit .errFramingTimeout
    · exact h.countTick.emit .none
  · exact h.emit .none

theorem AgreeUpToStale.exec {i : Instr} (h : AgreeUpToStale s s') (hx : exec i s = .next t) :
    ∃ t', exec i s' = .next t' ∧ AgreeUpToStale t t' := by
  obtain ⟨rfl, rfl⟩ | ⟨b, rfl, rfl⟩ | ⟨rfl, rfl⟩ | ⟨rfl, rfl⟩ := exec_next_cases hx
  · exact ⟨_, exec_nop s', h.emit .none⟩
  · exact ⟨_, exec_feed b s', h.feed b⟩
  · exact ⟨_, exec_tick s', h.tick⟩
  · exact ⟨_, exec_reset s', h.resetBlock_eq ▸ .refl _⟩

end Sys2Proof.Machine

-- ---------------------------------------------------------------- the obligations

namespace Sys2Proof.Proofs

open Sys2Proof.Machine

/-- Settles O43: the input is taken, and each of the four commands that run keeps every invariant. -/
theorem stepKeepsInvariants : Obligations.StepKeepsInvariants :=
  fun _ _ h hx => h.step hx

/-- Settles O42: reset leaves the block hunting, with nothing collected and an all-zero invalid latch. -/
theorem invariantsAtReset : Obligations.InvariantsAtReset :=
  ⟨inv_resetWith, inv_resetWith Config.params⟩

/-- Settles O44: the invariants hold at reset and every step keeps them. -/
theorem reachableStatesSatisfyR27 : Obligations.ReachableStatesSatisfyR27 := by
  intro s h
  obtain ⟨hI1, hI2, hI3, hI4, hI5, hI6, -⟩ := h.inv
  exact ⟨hI1, hI2, hI3, hI4, hI5, hI6⟩

/-- Settles O45: every command keeps the agreement, and agreeing states present the same outputs. -/
theorem staleBytesNeverMatter : Obligations.StaleBytesNeverMatter := by
  intro i s s' t h hx
  obtain ⟨t', hx', hagree⟩ := h.exec hx
  exact ⟨t', hx', hagree, hagree.outputs_eq⟩

/-- Settles O1: the fields of the reset state, with every byte of the zero frame 0. -/
theorem resetStateValues : Obligations.ResetStateValues :=
  fun _ => ⟨rfl, rfl, fun k _ => byteAt_zeroFrame k, rfl, rfl⟩

end Sys2Proof.Proofs

/-! The statements of 20_memory.md: the byte of `BUF` a FEED writes (R41), a stream of inputs against its trace (R48), and
channels side by side (R49, R147). -/

namespace Sys2Proof.Machine

variable {b : Byte} {i : Instr} {s t : State}

-- ---------------------------------------------------------------- what a FEED writes and what it leaves

/-- No case of FEED touches the configuration or the model's own fields beside the event (R41). -/
theorem feed_params_inputs_freeCount (b : Byte) (s : State) :
    (feed b s).params = s.params ∧ (feed b s).inputs = s.inputs ∧ (feed b s).freeCount = s.freeCount := by
  obtain ⟨-, -, heq⟩ | ⟨-, -, heq⟩ | ⟨-, -, heq⟩ | ⟨-, -, -, heq⟩ | ⟨-, -, -, -, heq⟩ |
    ⟨-, -, -, -, heq⟩ := feed_cases b s <;> simp [heq]

/-- A FEED changes `BUF` by at most one write: its byte at the position it writes (R41). -/
theorem byteAt_feed_buf (b : Byte) (s : State) (k : Nat) :
    byteAt (feed b s).buf k = if feedPosition b s = some k then b else byteAt s.buf k := by
  obtain ⟨hst, hb, heq⟩ | ⟨hst, hb, heq⟩ | ⟨hst, hr, heq⟩ | ⟨hst, hr, hi, heq⟩ |
    ⟨hst, hr, hi, -, heq⟩ | ⟨hst, hr, hi, -, heq⟩ := feed_cases b s <;> rw [heq]
  · simp [feedPosition, hst, hb]
  · simp [feedPosition, hst, hb, byteAt_set]
  · have hpos : feedPosition b s = some 0 := by simp only [feedPosition, hst, if_pos hr]
    simp [hpos, byteAt_set]
  · have hlt : s.idx.toNat < 22 := by omega
    simp [feedPosition, hst, hr, hi, byteAt_setIfInBounds, hlt]
  · simp [feedPosition, hst, hr, Nat.not_le.mpr hi, byteAt_set]
  · simp [feedPosition, hst, hr, Nat.not_le.mpr hi, byteAt_set]

/-- The one case of FEED that writes the latch is the one whose event is VALID (R88). -/
theorem feed_latch_of_ev_ne_valid (h : (feed b s).ev ≠ .valid) :
    (feed b s).frm = s.frm ∧ (feed b s).frmValid = s.frmValid := by
  obtain ⟨-, -, heq⟩ | ⟨-, -, heq⟩ | ⟨-, -, heq⟩ | ⟨-, -, -, heq⟩ | ⟨-, -, -, -, heq⟩ |
    ⟨-, -, -, -, heq⟩ := feed_cases b s <;> rw [heq] at h ⊢
  · exact ⟨rfl, rfl⟩
  · exact ⟨rfl, rfl⟩
  · exact ⟨rfl, rfl⟩
  · exact ⟨rfl, rfl⟩
  · exact absurd rfl h
  · exact ⟨rfl, rfl⟩

-- ---------------------------------------------------------------- no command reads the inputs to come

theorem feed_withInputs (b : Byte) (s : State) (l : List Ports) :
    feed b { s with inputs := l } = { feed b s with inputs := l } := by
  obtain ⟨hst, hb, heq⟩ | ⟨hst, hb, heq⟩ | ⟨hst, hr, heq⟩ | ⟨hst, hr, hi, heq⟩ |
    ⟨hst, hr, hi, hm, heq⟩ | ⟨hst, hr, hi, hm, heq⟩ := feed_cases b s <;> rw [heq]
  · exact feed_hunt_other hst hb
  · exact feed_hunt_marker hst hb
  · exact feed_restart hst hr
  · exact feed_store hst hr hi
  · exact (feed_complete (s := { s with inputs := l }) hst hr (Nat.not_le.mpr hi)).trans
      (completeFrame_match hm)
  · exact (feed_complete (s := { s with inputs := l }) hst hr (Nat.not_le.mpr hi)).trans
      (completeFrame_mismatch hm)

theorem tick_withInputs (s : State) (l : List Ports) :
    tick { s with inputs := l } = { tick s with inputs := l } := by
  simp only [tick]
  split
  · split <;> rfl
  · rfl

theorem exec_withInputs (h : exec i s = .next t) (l : List Ports) :
    exec i { s with inputs := l } = .next { t with inputs := l } := by
  obtain ⟨rfl, rfl⟩ | ⟨b, rfl, rfl⟩ | ⟨rfl, rfl⟩ | ⟨rfl, rfl⟩ := exec_next_cases h
  · rfl
  · rw [exec_feed, feed_withInputs]
  · rw [exec_tick, tick_withInputs]
  · rfl

/-- A command neither reads nor writes the inputs to come. -/
theorem exec_inputs (h : exec i s = .next t) : t.inputs = s.inputs := by
  have hsame : exec i s = .next { t with inputs := s.inputs } := exec_withInputs h s.inputs
  rw [h, Host.Outcome.next.injEq] at hsame
  rw [hsame]

-- ---------------------------------------------------------------- a step over the first command presented

@[simp] theorem decode_encode (i : Instr) : decode (encode i) = i := by
  cases i <;> simp [decode, encode, decodeCmd]

/-- With nothing else waiting, a step over a stream runs its first command and leaves the rest presented. -/
theorem step_load_cons (hs : s.inputs = []) (h : exec i s = .next t) (is : List Instr) :
    step (s.load (i :: is)) = .next (t.load is) := by
  have ht : t.inputs = [] := (exec_inputs h).trans hs
  have hload : (s.load (i :: is)).inputs = encode i :: portsOf is := by simp [State.load, hs, portsOf]
  rw [step_of_inputs_cons hload, decode_encode, State.load, State.load, ht, List.nil_append]
  exact exec_withInputs h (portsOf is)

theorem run_succ_of_step {M : Host.Core} {s t : M.State} (h : M.step s = .next t) (k : Nat) :
    M.run (k + 1) s = M.run k t := by
  simp only [Host.Core.run, h]

theorem run_load_of_trace {is : List Instr} {es : List Event} (hs : s.inputs = [])
    (h : trace is s = some (es, t)) : core.run is.length (s.load is) = .next t := by
  induction is generalizing s es with
  | nil =>
    obtain ⟨-, rfl⟩ : [] = es ∧ s = t := by simpa using h
    have hload : s.load [] = s := by simp [State.load, portsOf]
    rw [hload]; rfl
  | cons i is ih =>
    unfold trace at h
    split at h
    next u hu =>
      obtain ⟨⟨es', t'⟩, htrace, heq⟩ := Option.map_eq_some_iff.mp h
      obtain ⟨-, rfl⟩ := Prod.mk.inj heq
      calc core.run (is.length + 1) (s.load (i :: is))
          = core.run is.length (u.load is) := run_succ_of_step (M := core) (step_load_cons hs hu is) _
        _ = .next t' := ih ((exec_inputs hu).trans hs) htrace
    next => simp at h
    next => simp at h

-- ---------------------------------------------------------------- the start of a system

theorem set_eq_of_check_ok {p : ParamSet} {q : Params} (h : p.check = .ok q) : q.set = p := by
  unfold ParamSet.check at h
  split at h
  · simp at h
  · cases h; rfl

/-- The channel a set-up gives once its parameters pass: its block at reset between the consumer and source given. -/
def ChannelSetup.atReset (c : ChannelSetup) (h : c.params.wellFormed = true) : Channel :=
  ⟨State.resetWith ⟨c.params, h⟩, c.consumer, c.source⟩

theorem ChannelSetup.bringUp_of_wellFormed {c : ChannelSetup} (h : c.params.wellFormed = true) :
    c.bringUp = .next (c.atReset h) := by
  simp only [ChannelSetup.bringUp, Machine.bringUp_of_wellFormed h, ChannelSetup.atReset]

theorem ChannelSetup.wellFormed_of_bringUp {c : ChannelSetup} {ch : Channel} (h : c.bringUp = .next ch) :
    c.params.wellFormed = true := by
  obtain ⟨q, hq, -⟩ := ChannelSetup.bringUp_next_cases h
  exact set_eq_of_check_ok hq ▸ q.wf

theorem bringUpChannels_of_wellFormed {cs : List ChannelSetup} (h : ∀ c ∈ cs, c.params.wellFormed = true) :
    bringUpChannels cs = .next (cs.pmap ChannelSetup.atReset h) := by
  induction cs with
  | nil => rfl
  | cons c cs ih =>
    obtain ⟨hc, hcs⟩ := List.forall_mem_cons.mp h
    simp only [bringUpChannels, ChannelSetup.bringUp_of_wellFormed hc, ih hcs, List.pmap]

theorem wellFormed_of_bringUpChannels {cs : List ChannelSetup} {chs : List Channel}
    (h : bringUpChannels cs = .next chs) : ∀ c ∈ cs, c.params.wellFormed = true := by
  induction cs generalizing chs with
  | nil => simp
  | cons c cs ih =>
    obtain ⟨ch, rest, hc, hrest, -⟩ := bringUpChannels_cons h
    exact List.forall_mem_cons.mpr ⟨ChannelSetup.wellFormed_of_bringUp hc, ih hrest⟩

/-- Where channels come up, every set is well-formed and they are their set-ups at reset, in order. -/
theorem bringUpChannels_next_cases {cs : List ChannelSetup} {chs : List Channel}
    (h : bringUpChannels cs = .next chs) :
    ∃ hwf : ∀ c ∈ cs, c.params.wellFormed = true, chs = cs.pmap ChannelSetup.atReset hwf := by
  have hwf := wellFormed_of_bringUpChannels h
  rw [bringUpChannels_of_wellFormed hwf, Host.Outcome.next.injEq] at h
  exact ⟨hwf, h.symm⟩

/-- The topologies of R147, said of the set-ups, are those of the channels they give. -/
theorem wellFormed_atReset {cs : List ChannelSetup} (hwf : ∀ c ∈ cs, c.params.wellFormed = true)
    (hlen : cs.length = 1 ∨ cs.length = 2) (hnum : ∀ c ∈ cs, c.params.numChannels = cs.length)
    (hsoft : (cs.filter (fun c => decide (c.source.kind = .software))).length ≤ 1) :
    System.wellFormed ⟨cs.pmap ChannelSetup.atReset hwf⟩ = true := by
  have hsources : (cs.pmap ChannelSetup.atReset hwf).map Channel.source = cs.map ChannelSetup.source :=
    (List.map_pmap hwf).trans (List.pmap_eq_map hwf)
  have hcount : (cs.pmap ChannelSetup.atReset hwf).countP (fun ch => ch.source.kind == .software) =
      cs.countP (fun c => decide (c.source.kind = .software)) := by
    have h := congrArg (List.countP fun b => b.kind == .software) hsources
    rwa [List.countP_map, List.countP_map] at h
  have hnums : ∀ ch ∈ cs.pmap ChannelSetup.atReset hwf, ch.block.params.set.numChannels = cs.length := by
    intro ch hch
    obtain ⟨c, hc, rfl⟩ := List.mem_pmap.mp hch
    exact hnum c hc
  rw [← List.countP_eq_length_filter] at hsoft
  simp only [System.wellFormed, List.length_pmap, ← List.countP_eq_length_filter, hcount, Bool.and_eq_true,
    decide_eq_true_eq, List.all_eq_true, beq_iff_eq]
  exact ⟨⟨by omega, hsoft⟩, hnums⟩

end Sys2Proof.Machine

-- ---------------------------------------------------------------- the obligations

namespace Sys2Proof.Proofs

open Sys2Proof.Machine

/-- Settles O12: along the stream, each step runs the first command presented and keeps the rest for the next. -/
theorem stepsRunTheTrace : Obligations.StepsRunTheTrace :=
  fun _ _ _ _ => run_load_of_trace

/-- Settles O21: the one write to `BUF`, and the fields no case of FEED touches. -/
theorem feedFrameCondition : Obligations.FeedFrameCondition := by
  intro b s t h
  obtain rfl : feed b s = t := by simpa using h
  obtain ⟨hparams, hinputs, hfree⟩ := feed_params_inputs_freeCount b s
  exact ⟨hparams, hinputs, hfree,
    fun k hk => (byteAt_feed_buf b s k).trans (if_neg hk),
    fun k _ hk => (byteAt_feed_buf b s k).trans (if_pos hk),
    feed_latch_of_ev_ne_valid⟩

/-- Settles O57: every set-up comes up at reset in its place, and a command is set at one index of the list. -/
theorem channelsIndependent : Obligations.ChannelsIndependent := by
  refine ⟨fun cs y h => ?_, fun cs hlen hcs hsoft => ?_, fun y y' k i h => ?_⟩
  · obtain ⟨hup, -⟩ := System.bringUp_next_cases h
    obtain ⟨hwf, hchs⟩ := bringUpChannels_next_cases hup
    rw [hchs]
    refine ⟨List.length_pmap, fun k c hk => ?_⟩
    have hc : c ∈ cs := List.mem_of_getElem? hk
    refine ⟨c.atReset (hwf c hc), ?_, rfl, rfl, rfl, rfl⟩
    simp [List.getElem?_pmap, hk]
  · have hwf : ∀ c ∈ cs, c.params.wellFormed = true := fun c hc => (hcs c hc).1
    have htop := wellFormed_atReset hwf hlen (fun c hc => (hcs c hc).2) hsoft
    refine ⟨⟨cs.pmap ChannelSetup.atReset hwf⟩, ?_⟩
    simp only [System.bringUp, bringUpChannels_of_wellFormed hwf, if_pos htop]
  · obtain ⟨-, rfl⟩ | ⟨ch, ch', hk, -, rfl⟩ := System.issue_next_cases h
    · exact ⟨rfl, fun _ _ => rfl, fun _ => rfl⟩
    · have hlt := (List.getElem?_eq_some_iff.mp hk).1
      exact ⟨List.length_set, fun j hj => List.getElem?_set_ne hj.symm, fun hle => by omega⟩

end Sys2Proof.Proofs

/-! The statements of 30_encoding.md: the command word and its numbering (R60 to R63), the event codes (R64, R65), the
command lines (R72) and the pseudo-instruction FRAME (R73), with the reception of a whole frame it rests on. -/

namespace Sys2Proof

-- ---------------------------------------------------------------- an input and its word

@[simp] theorem portsOfWord_wordOfPorts (x : Ports) : portsOfWord (wordOfPorts x) = .ok x := by
  obtain ⟨rst, cmd⟩ := x
  have hcmd := cmd.isLt
  rw [portsOfWord, if_pos (wordOfPorts_lt _)]
  cases rst with
  | false =>
    have hlt : ¬ 1024 ≤ cmd.toNat := by omega
    simp [wordOfPorts, hlt]
  | true =>
    have hword : BitVec.ofNat 10 (1024 + cmd.toNat) = cmd := BitVec.eq_of_toNat_eq (by simpa using hcmd)
    simp [wordOfPorts, hword]

theorem portsOfWord_of_le {w : Nat} (h : 2048 ≤ w) : portsOfWord w = .error (.unusedBits w) :=
  if_neg (Nat.not_lt.mpr h)

theorem decodeWord_wordOfPorts (x : Ports) : decodeWord (wordOfPorts x) = .ok (decode x) := by
  simp [decodeWord]

theorem decodeWord_of_le {w : Nat} (h : 2048 ≤ w) : decodeWord w = .error (.unusedBits w) := by
  simp [decodeWord, portsOfWord_of_le h]

/-- The table's 16 bits hold every instruction's word. -/
theorem encodeWord_mod (i : Instr) : encodeWord i % 2 ^ 16 = encodeWord i :=
  Nat.mod_eq_of_lt (Nat.lt_of_lt_of_le (wordOfPorts_lt _) (by decide))

theorem decodeWord_encodeWord (i : Instr) : decodeWord (encodeWord i) = .ok i := by
  rw [encodeWord, decodeWord_wordOfPorts, Machine.decode_encode]

theorem decodeTableWord_encodeWord (i : Instr) : decodeTableWord 16 (encodeWord i) = some i := by
  simp only [decodeTableWord, encodeWord_mod, decodeWord_encodeWord]

-- ---------------------------------------------------------------- the selector, by `OP` (R61)

theorem decode_of_not_rst {x : Ports} (h : x.rst = false) : decode x = decodeCmd x.cmd := by
  simp [decode, h]

/-- The selector has one case for each value of `OP`. -/
theorem decodeCmd_cases (w : CmdWord) :
    (opField w = 0#2 ∧ decodeCmd w = .nop) ∨ (opField w = 1#2 ∧ decodeCmd w = .feed (dataField w)) ∨
    (opField w = 2#2 ∧ decodeCmd w = .tick) ∨ (opField w = 3#2 ∧ decodeCmd w = .rsvd) := by
  have hop : ∀ op : BitVec 2, op = 0#2 ∨ op = 1#2 ∨ op = 2#2 ∨ op = 3#2 := by decide
  obtain h | h | h | h := hop (opField w) <;> simp [decodeCmd, h]

theorem dataField_eq_ofNat (w : CmdWord) : dataField w = BitVec.ofNat 8 (w.toNat % 256) :=
  BitVec.eq_of_toNat_eq (by simp [dataField])

theorem opField_encode_decodeCmd (w : CmdWord) : opField (encode (decodeCmd w)).cmd = opField w := by
  obtain ⟨hop, h⟩ | ⟨hop, h⟩ | ⟨hop, h⟩ | ⟨hop, h⟩ := decodeCmd_cases w <;> simp [h, hop, encode]

theorem encode_decode_rst (x : Ports) : (encode (decode x)).rst = x.rst := by
  cases hrst : x.rst with
  | true => rw [decode_of_rst hrst]; rfl
  | false =>
    rw [decode_of_not_rst hrst]
    obtain ⟨-, h⟩ | ⟨-, h⟩ | ⟨-, h⟩ | ⟨-, h⟩ := decodeCmd_cases x.cmd <;> rw [h] <;> rfl

/-- An input that decodes to a FEED has `rst = 0` and is FEED's opcode with the byte (R62). -/
theorem eq_encode_of_decode_feed {x : Ports} {b : Byte} (h : decode x = .feed b) : x = encode (.feed b) := by
  obtain ⟨rst, cmd⟩ := x
  cases rst with
  | true => simp [decode] at h
  | false =>
    rw [decode_of_not_rst rfl] at h
    obtain ⟨-, hd⟩ | ⟨hop, hd⟩ | ⟨-, hd⟩ | ⟨-, hd⟩ := decodeCmd_cases cmd <;> rw [hd] at h
    · simp at h
    · obtain rfl : dataField cmd = b := by simpa using h
      rw [encode, ← hop, cmdWord_fields]
    · simp at h
    · simp at h

namespace Machine

-- ---------------------------------------------------------------- an instruction's word presented (log entry 4)

theorem State.withFetchWord_encodeWord (i : Instr) (s : State) :
    s.withFetchWord 16 (encodeWord i) = { s with inputs := encode i :: s.inputs } := by
  rw [State.withFetchWord, encodeWord_mod, encodeWord, portsOfWord_wordOfPorts]

-- ---------------------------------------------------------------- the events of each command (R64)

theorem feed_ev_ne_errFramingTimeout (b : Byte) (s : State) : (feed b s).ev ≠ .errFramingTimeout := by
  obtain ⟨-, -, heq⟩ | ⟨-, -, heq⟩ | ⟨-, -, heq⟩ | ⟨-, -, -, heq⟩ | ⟨-, -, -, -, heq⟩ |
    ⟨-, -, -, -, heq⟩ := feed_cases b s <;> simp [heq]

theorem tick_ev (s : State) : (tick s).ev = .none ∨ (tick s).ev = .errFramingTimeout := by
  obtain ⟨-, -, -, heq⟩ | ⟨-, -, -, heq⟩ | ⟨-, heq⟩ := tick_cases s <;> simp [heq]

/-- An event other than NONE comes from a FEED, which emits no timeout, or is the timeout of a TICK (R64). -/
theorem exec_ev_cases {i : Instr} {s t : State} (h : exec i s = .next t) :
    t.ev = .none ∨ (∃ b, i = .feed b ∧ t.ev ≠ .errFramingTimeout) ∨ (i = .tick ∧ t.ev = .errFramingTimeout) := by
  obtain ⟨-, rfl⟩ | ⟨b, rfl, rfl⟩ | ⟨rfl, rfl⟩ | ⟨-, rfl⟩ := exec_next_cases h
  · exact .inl rfl
  · exact .inr (.inl ⟨b, rfl, feed_ev_ne_errFramingTimeout b s⟩)
  · exact (tick_ev s).imp_right fun hev => .inr ⟨rfl, hev⟩
  · exact .inl rfl

theorem outputs_ev (s : State) : (outputs s).ev = s.ev.code := rfl

-- ---------------------------------------------------------------- command lines (R72)

theorem hexValue_hexDigit : ∀ n, n < 16 → hexValue (hexDigit n) = some n := by decide

theorem hexDigit_ne_semicolon : ∀ n, n < 16 → hexDigit n ≠ ';' := by decide

theorem hexDigit_ne_blank : ∀ n, n < 16 → hexDigit n ≠ ' ' := by decide

/-- A line without a comment and without blanks at its ends is parsed as it stands. -/
theorem parseLine_of_clean {c d : Char} {cs : List Char} (hcomment : ';' ∉ c :: cs) (hc : c ≠ ' ')
    (hlast : (c :: cs).getLast? = some d) (hd : d ≠ ' ') :
    parseLine (c :: cs) = (parseCommand (c :: cs)).map (fun i => [i]) := by
  have hdrop : dropComment (c :: cs) = c :: cs :=
    List.takeWhile_eq_self_iff.mpr fun x hx => by
      simpa using fun h : x = ';' => hcomment (h ▸ hx)
  obtain ⟨init, hinit⟩ := List.getLast?_eq_some_iff.mp hlast
  have htrim : trimLine (c :: cs) = c :: cs := by
    rw [trimLine, List.dropWhile_cons_of_neg (by simpa using hc), hinit, List.reverse_append]
    simp [hd]
  rw [parseLine, hdrop, htrim]

theorem hexByte_eq_digits (b : Byte) : ∃ m n, m < 16 ∧ n < 16 ∧ 16 * m + n = b.toNat ∧
    hexByte b = ['0', 'x', hexDigit m, hexDigit n] := by
  have := b.isLt
  exact ⟨b.toNat / 16, b.toNat % 16, by omega, by omega, by omega, rfl⟩

theorem parseCommand_feed {a b : Char} {x y : Nat} (ha : hexValue a = some x) (hb : hexValue b = some y) :
    parseCommand ("FEED 0x".toList ++ [a, b]) = some (.feed (BitVec.ofNat 8 (16 * x + y))) := by
  simp [parseCommand, ha, hb]

theorem parseLine_feed (b : Byte) : parseLine ("FEED ".toList ++ hexByte b) = some [.feed b] := by
  obtain ⟨m, n, hm, hn, hmn, hhex⟩ := hexByte_eq_digits b
  have hclean : ';' ∉ "FEED ".toList ++ hexByte b := by
    simp [hhex, (hexDigit_ne_semicolon m hm).symm, (hexDigit_ne_semicolon n hn).symm]
  rw [hhex] at hclean ⊢
  calc parseLine ("FEED ".toList ++ ['0', 'x', hexDigit m, hexDigit n])
      = (parseCommand ("FEED 0x".toList ++ [hexDigit m, hexDigit n])).map (fun i => [i]) :=
        parseLine_of_clean hclean (by decide) rfl (hexDigit_ne_blank n hn)
    _ = some [.feed b] := by
        rw [parseCommand_feed (hexValue_hexDigit m hm) (hexValue_hexDigit n hn), hmn]
        simp

-- ---------------------------------------------------------------- a frame received, byte by byte (R82, R83, R85)

/-- The block is collecting `f` and holds its first `k` bytes. -/
structure HoldsPrefix (f : Frame) (k : Nat) (s : State) : Prop where
  collecting : s.st = .collect
  index : s.idx.toNat = k
  bytes : ∀ j, j < k → byteAt s.buf j = byteAt f j

variable {s : State} {f : Frame} {k : Nat}

theorem holdsPrefix_one_startFrame (s : State) (f : Frame) : HoldsPrefix f 1 (s.startFrame (byteAt f 0)) where
  collecting := rfl
  index := rfl
  bytes := fun j hj => by
    obtain rfl : j = 0 := by omega
    simp [byteAt_set]

theorem HoldsPrefix.emit (h : HoldsPrefix f k s) (e : Event) : HoldsPrefix f k (s.emit e) := { h with }

theorem HoldsPrefix.storeByte (h : HoldsPrefix f k s) (hk : k ≤ 20) :
    HoldsPrefix f (k + 1) (s.storeByte (byteAt f k)) := by
  obtain ⟨hst, rfl, hbuf⟩ := h
  refine ⟨hst, idx_succ_toNat hk, fun j hj => ?_⟩
  rw [State.storeByte_buf, byteAt_setIfInBounds]
  split
  next hj' => rw [hj'.1]
  next => exact hbuf j (by omega)

theorem HoldsPrefix.feed_clean (h : HoldsPrefix f k s) (hk : k ≤ 20) (hb : byteAt f k ≠ markerByte s.params) :
    feed (byteAt f k) s = (s.storeByte (byteAt f k)).emit .none :=
  feed_store h.collecting (fun hr => hb hr.1) (h.index ▸ hk)

/-- With 21 bytes held, the last one completes the frame in `BUF`. -/
theorem HoldsPrefix.buf_set_last (h : HoldsPrefix f 21 s) : s.buf.set 21 (byteAt f 21) = f :=
  frame_ext fun j hj => by
    rw [byteAt_set]
    split
    next hj' => rw [hj']
    next => exact h.bytes j (by omega)

/-- The state right after the VALID of a frame, which `BUF` and `FRM` then hold (R85, R88). -/
def State.received (f : Frame) (s : State) : State :=
  { s with st := .hunt, idx := 0, gap := 0, buf := f, frm := f, frmValid := true, ev := .valid }

theorem HoldsPrefix.feed_last (h : HoldsPrefix f 21 s) (hf : ValidatedFrame s.params f) :
    feed (byteAt f 21) s = s.received f := by
  obtain ⟨-, hcks, hlast, -⟩ := hf
  have hidx := h.index
  have hr : ¬ restarts (byteAt f 21) s := by
    rintro ⟨hb, hi | hrule⟩
    · omega
    · exact hlast hrule hb
  have hm : checksumMatches s.params (s.buf.set 21 (byteAt f 21)) = true := by
    rw [h.buf_set_last, checksumMatches_iff, hcks]
  rw [feed_complete h.collecting hr (by omega), completeFrame_match hm]
  simp only [State.storeLast, h.buf_set_last]
  rfl

theorem toList_drop_eq_cons (f : Frame) (hk : k < 22) :
    f.toList.drop k = byteAt f k :: f.toList.drop (k + 1) := by
  rw [List.drop_eq_getElem_cons (by simpa using hk)]
  simp [byteAt_eq_getElem f hk]

theorem trace_feeds_cons (b : Byte) (bs : List Byte) (s : State) :
    trace (feeds (b :: bs)) s = (trace (feeds bs) (feed b s)).map (fun r => ((feed b s).ev :: r.1, r.2)) :=
  trace_cons (exec_feed b s) _

/-- From any state that holds the first bytes of a frame that can be received, the others complete it. -/
theorem HoldsPrefix.trace_rest {n : Nat} (h : HoldsPrefix f k s) (hf : ValidatedFrame s.params f) (h₁ : 1 ≤ k)
    (hn : k + n = 21) :
    trace (feeds (f.toList.drop k)) s = some (quiet n ++ [Event.valid], s.received f) := by
  induction n generalizing k s with
  | zero =>
    obtain rfl : k = 21 := hn
    have hnil : f.toList.drop 22 = [] := List.drop_eq_nil_of_le (by simp)
    rw [toList_drop_eq_cons f (by decide), hnil, trace_feeds_cons, h.feed_last hf]
    rfl
  | succ n ih =>
    have hb : byteAt f k ≠ markerByte s.params := by
      obtain ⟨-, -, -, hclean⟩ := hf
      exact hclean k h₁ (by omega)
    have hnext := (h.storeByte (by omega)).emit .none
    rw [toList_drop_eq_cons f (by omega), trace_feeds_cons, h.feed_clean (by omega) hb,
      ih hnext hf (by omega) (by omega)]
    rfl

/-- From HUNT, the 22 bytes of a frame that can be received leave it in the latch (R82, R83, R85, R88). -/
theorem trace_wire_of_validated (hst : s.st = .hunt) (hf : ValidatedFrame s.params f) :
    trace (wire f) s = some (quiet 21 ++ [Event.valid], s.received f) := by
  have hmarker : byteAt f 0 = markerByte s.params := by
    obtain ⟨h, -⟩ := hf
    exact h
  have hnext := (holdsPrefix_one_startFrame s f).emit .none
  rw [wire, ← List.drop_zero (l := f.toList), toList_drop_eq_cons f (by decide), trace_feeds_cons,
    feed_hunt_marker hst hmarker, hnext.trace_rest hf (by decide) (n := 20) rfl]
  rfl

-- ---------------------------------------------------------------- the frame of FRAME (R67, R73)

theorem byteAt_eq_toList (f : Frame) (k : Nat) : byteAt f k = f.toList[k]?.getD 0 := by
  simp [byteAt]

theorem toList_frameOf (p : Params) (payload : Vector Byte 20) (c : Byte) :
    (frameOf p payload c).toList = markerByte p :: (payload.toList ++ [c]) := by
  simp [frameOf, Vector.toList]

@[simp] theorem byteAt_frameOf_zero (p : Params) (payload : Vector Byte 20) (c : Byte) :
    byteAt (frameOf p payload c) 0 = markerByte p := by
  simp [byteAt_eq_toList, toList_frameOf]

@[simp] theorem byteAt_frameOf_last (p : Params) (payload : Vector Byte 20) (c : Byte) :
    byteAt (frameOf p payload c) 21 = c := by
  simp [byteAt_eq_toList, toList_frameOf]

theorem byteAt_frameOf (p : Params) (payload : Vector Byte 20) (c : Byte) {k : Nat} (h : k < 20) :
    byteAt (frameOf p payload c) (k + 1) = payload[k] := by
  rw [byteAt_eq_toList, toList_frameOf, List.getElem?_cons_succ, List.getElem?_append_left (by simpa using h)]
  simp [h]

theorem frameOf_set_last (p : Params) (payload : Vector Byte 20) (c d : Byte) :
    (frameOf p payload c).set 21 d = frameOf p payload d := by
  apply Vector.toList_inj.mp
  simp [Vector.toList_set, toList_frameOf]

theorem cks_set_last (p : Params) (f : Frame) (b : Byte) : cks p (f.set 21 b) = cks p f := by
  have hend := p.cksEnd_cases
  have hle : p.set.cksEnd ≤ 22 := by omega
  rw [cks, cks, take_toList_eq_map_byteAt _ hle, take_toList_eq_map_byteAt _ hle]
  congr 1
  refine List.map_congr_left fun k hk => ?_
  rw [List.mem_range] at hk
  rw [byteAt_set, if_neg (by omega)]

/-- FRAME's checksum byte is the checksum of its frame: the span stops before position 21 (R100). -/
theorem cks_frameOf (p : Params) (payload : Vector Byte 20) (c : Byte) :
    cks p (frameOf p payload c) = frameChecksum p payload := by
  rw [frameChecksum, ← frameOf_set_last p payload 0 c, cks_set_last]

/-- The frame FRAME sends can be received, where its payload and, under RESTART, its checksum are no marker (R91). -/
theorem validatedFrame_frameOf {p : Params} {payload : Vector Byte 20}
    (hclean : ∀ b ∈ payload.toList, b ≠ markerByte p)
    (hlast : p.set.lastMarkerRule = .restart → frameChecksum p payload ≠ markerByte p) :
    ValidatedFrame p (frameOf p payload (frameChecksum p payload)) := by
  refine ⟨byteAt_frameOf_zero .., by rw [cks_frameOf, byteAt_frameOf_last], by simpa using hlast,
    fun k h₁ h₂ => ?_⟩
  obtain ⟨j, rfl⟩ := Nat.exists_eq_add_of_le' h₁
  rw [byteAt_frameOf _ _ _ (by omega)]
  exact hclean _ (by simp)

end Machine
end Sys2Proof

-- ---------------------------------------------------------------- the obligations

namespace Sys2Proof.Proofs

open Sys2Proof.Machine

/-- Settles O7: on the ports case by case, and through the word's numbering, which loses nothing. -/
theorem decodeOfEncode : Obligations.DecodeOfEncode :=
  fun i => ⟨decode_encode i, decodeWord_encodeWord i, decodeTableWord_encodeWord i⟩

/-- Settles O8: `OP` survives every decoded command, and FEED keeps `DATA` as well. -/
theorem encodeOfDecode : Obligations.EncodeOfDecode := by
  refine ⟨fun x => ⟨encode_decode_rst x, fun hrst => ?_, fun b h => ?_⟩, fun w => decodeWord_of_le⟩
  · rw [decode_of_not_rst hrst, opField_encode_decodeCmd]
  · rw [h, ← eq_encode_of_decode_feed h]

/-- Settles O14: the codes by evaluation, the commands by the events each can emit. -/
theorem eventsByCommand : Obligations.EventsByCommand := by
  refine ⟨by decide, fun i s t h => ?_⟩
  rw [outputs_ev]
  obtain hev | ⟨b, rfl, hev⟩ | ⟨rfl, hev⟩ := exec_ev_cases h
  · simp [hev, Event.code]
  · cases he : t.ev with
    | errFramingTimeout => exact absurd he hev
    | _ => simp [Event.code]
  · simp [hev, Event.code]

/-- Settles O49: FRAME's frame can be received, so it is. -/
theorem framePseudoReceived : Obligations.FramePseudoReceived :=
  fun s _ hst hclean hlast =>
    ⟨s.received _, trace_wire_of_validated hst (validatedFrame_frameOf hclean hlast), rfl, rfl, rfl⟩

/-- Settles O5: the word's quotient by 256 is `OP`, its remainder `DATA`. -/
theorem commandSelector : Obligations.CommandSelector := by
  intro w
  rw [← opField_toNat, ← dataField_eq_ofNat, decode_of_not_rst rfl]
  obtain ⟨hop, h⟩ | ⟨hop, h⟩ | ⟨hop, h⟩ | ⟨hop, h⟩ := decodeCmd_cases w <;> simp [hop, h]

/-- Settles O6, by evaluation of the six words. -/
theorem specWordsDecode : Obligations.SpecWordsDecode := by
  unfold Obligations.SpecWordsDecode
  decide

/-- Settles O11: the instruction's input stands first among the inputs, and the step takes it off again. -/
theorem presentedWordRunsNext : Obligations.PresentedWordRunsNext := by
  intro i s
  rw [State.withFetchWord_encodeWord, step_of_inputs_cons rfl, decode_encode]

/-- Settles O60: FEED's line by its two digits, and the three fixed lines by evaluation. -/
theorem renderedLineParses : Obligations.RenderedLineParses := by
  intro i line h
  cases i with
  | nop => cases h; decide
  | feed b => cases h; exact parseLine_feed b
  | tick => cases h; decide
  | rsvd => cases h
  | reset => cases h; decide

end Sys2Proof.Proofs

/-! The statements of 40_feed.md: each case of a FEED (R81 to R86), the latch (R88), the spacing of VALID events (R92), and the
response to a frame received whole or with one byte changed (R93), with the checksum's part in it (R105). -/

namespace Sys2Proof.Machine

variable {p : Params} {s t : State} {i : Instr} {f g : Frame} {k n : Nat} {b : Byte} {e : Event}

-- ---------------------------------------------------------------- a FEED in COLLECT (R84 to R86)

/-- In COLLECT a restart leaves `ST` as it is (R84). -/
theorem startFrame_of_collect (h : s.st = .collect) (b : Byte) :
    s.startFrame b = { s with buf := s.buf.set 0 b, idx := 1, gap := 0 } := by
  rw [State.startFrame, ← h]

theorem checksumMatches_set_last_iff (p : Params) (f : Frame) (b : Byte) :
    checksumMatches p (f.set 21 b) = true ↔ cks p (f.set 21 b) = b := by
  rw [checksumMatches_iff, byteAt_set, if_pos rfl]

/-- The state right after the ERR_CHECKSUM of a frame, which stays in `BUF` alone (R85). -/
def State.rejected (f : Frame) (s : State) : State :=
  { s with st := .hunt, idx := 0, gap := 0, buf := f, ev := .errChecksum }

/-- The byte that completes a frame latches it or drops it, by its checksum (R85). -/
theorem feed_complete_eq_ite (hst : s.st = .collect) (hr : ¬ restarts b s) (hi : 20 < s.idx.toNat) :
    feed b s = if cks s.params (s.buf.set 21 b) = b then s.received (s.buf.set 21 b)
      else s.rejected (s.buf.set 21 b) := by
  rw [feed_complete hst hr (Nat.not_le.mpr hi)]
  have hiff := checksumMatches_set_last_iff s.params s.buf b
  split
  next hm => exact completeFrame_match (hiff.mpr hm)
  next hm => exact completeFrame_mismatch (by simpa using mt hiff.mp hm)

-- ---------------------------------------------------------------- the step of a VALID (R88)

/-- Only a FEED emits VALID, and only as the last byte of a frame whose checksum matches (R85, R88). -/
theorem exec_ev_valid (h : exec i s = .next t) (hv : t.ev = .valid) :
    ∃ b, i = .feed b ∧ s.st = .collect ∧ 20 < s.idx.toNat ∧ cks s.params (s.buf.set 21 b) = b ∧
      t = s.received (s.buf.set 21 b) := by
  obtain hev | ⟨b, rfl, -⟩ | ⟨-, hev⟩ := exec_ev_cases h
  · simp [hev] at hv
  · obtain rfl : feed b s = t := by simpa using h
    obtain ⟨-, -, heq⟩ | ⟨-, -, heq⟩ | ⟨-, -, heq⟩ | ⟨-, -, -, heq⟩ | ⟨hst, -, hi, hm, heq⟩ |
      ⟨-, -, -, -, heq⟩ := feed_cases b s <;> simp [heq] at hv
    exact ⟨b, rfl, hst, hi, (checksumMatches_set_last_iff _ _ _).mp hm, heq⟩
  · simp [hev] at hv

theorem tick_latch (s : State) : (tick s).frm = s.frm ∧ (tick s).frmValid = s.frmValid := by
  obtain ⟨-, -, -, heq⟩ | ⟨-, -, -, heq⟩ | ⟨-, heq⟩ := tick_cases s <;> simp [heq]

/-- Beside RESET, only a VALID writes the latch (R88). -/
theorem exec_latch_of_ev_ne_valid (h : exec i s = .next t) (hi : i ≠ .reset) (hv : t.ev ≠ .valid) :
    t.frm = s.frm ∧ t.frmValid = s.frmValid := by
  obtain ⟨-, rfl⟩ | ⟨b, -, rfl⟩ | ⟨-, rfl⟩ | ⟨rfl, -⟩ := exec_next_cases h
  · exact ⟨rfl, rfl⟩
  · exact feed_latch_of_ev_ne_valid hv
  · exact tick_latch s
  · exact absurd rfl hi

-- ---------------------------------------------------------------- how many FEEDs lie behind a VALID (R92)

/-- How many bytes of a frame the block holds. -/
def heldBytes (s : State) : Nat :=
  match s.st with
  | .hunt => 0
  | .collect => s.idx.toNat

theorem heldBytes_of_hunt (h : s.st = .hunt) : heldBytes s = 0 := by
  simp [heldBytes, h]

theorem heldBytes_of_collect (h : s.st = .collect) : heldBytes s = s.idx.toNat := by
  simp [heldBytes, h]

/-- A FEED adds at most its own byte to those held. -/
theorem heldBytes_feed_le (b : Byte) (s : State) : heldBytes (feed b s) ≤ heldBytes s + 1 := by
  obtain ⟨hst, -, heq⟩ | ⟨-, -, heq⟩ | ⟨-, -, heq⟩ | ⟨hst, -, hi, heq⟩ | ⟨-, -, -, -, heq⟩ |
    ⟨-, -, -, -, heq⟩ := feed_cases b s <;> rw [heq]
  · rw [heldBytes_of_hunt (s := s.emit .none) hst]; omega
  · simp [heldBytes]
  · simp [heldBytes]
  · rw [heldBytes_of_collect hst, heldBytes_of_collect (s := (s.storeByte b).emit .none) hst,
      State.emit_idx, State.storeByte_idx, idx_succ_toNat hi]
  · simp [heldBytes]
  · simp [heldBytes]

theorem heldBytes_tick_le (s : State) : heldBytes (tick s) ≤ heldBytes s := by
  obtain ⟨-, -, -, heq⟩ | ⟨-, -, -, heq⟩ | ⟨-, heq⟩ := tick_cases s <;> simp [heq, heldBytes]

/-- Bytes come to be held by FEEDs alone. -/
theorem exec_heldBytes_le (h : exec i s = .next t) : heldBytes t ≤ heldBytes s + feedCount [i] := by
  obtain ⟨rfl, rfl⟩ | ⟨b, rfl, rfl⟩ | ⟨rfl, rfl⟩ | ⟨rfl, rfl⟩ := exec_next_cases h
  · exact Nat.le_refl _
  · exact heldBytes_feed_le b s
  · exact heldBytes_tick_le s
  · simp [heldBytes]

theorem feedCount_cons (i : Instr) (is : List Instr) : feedCount (i :: is) = feedCount [i] + feedCount is := by
  cases i <;> simp [feedCount, Nat.add_comm]

/-- A trace of a command and more: the command ran, and the rest is a trace from the state it left. -/
theorem trace_cons_cases {is : List Instr} {es : List Event} (h : trace (i :: is) s = some (es, t)) :
    ∃ u es', exec i s = .next u ∧ trace is u = some (es', t) ∧ es = u.ev :: es' := by
  unfold trace at h
  split at h
  next u hu =>
    obtain ⟨⟨es', t'⟩, htrace, heq⟩ := Option.map_eq_some_iff.mp h
    obtain ⟨rfl, rfl⟩ := Prod.mk.inj heq
    exact ⟨u, es', hu, htrace, rfl⟩
  next => simp at h
  next => simp at h

/-- The bytes held at the start and the FEEDs of a stream make up the 22 bytes of the VALID it ends in (R92). -/
theorem le_heldBytes_add_feedCount_of_getLast?_valid {is : List Instr} {es : List Event} (h : trace is s = some (es, t))
    (hlast : es.getLast? = some .valid) : 22 ≤ heldBytes s + feedCount is := by
  induction is generalizing s es with
  | nil =>
    obtain ⟨rfl, -⟩ : [] = es ∧ s = t := by simpa using h
    simp at hlast
  | cons i is ih =>
    obtain ⟨u, es', hu, htrace, rfl⟩ := trace_cons_cases h
    rw [feedCount_cons]
    cases es' with
    | nil =>
      obtain ⟨b, rfl, hst, hi, -⟩ := exec_ev_valid hu (by simpa using hlast)
      rw [heldBytes_of_collect hst]
      simp only [feedCount]
      omega
    | cons e es' =>
      have hrest := ih htrace (by rwa [List.getLast?_cons_cons] at hlast)
      have hstep := exec_heldBytes_le hu
      omega

-- ---------------------------------------------------------------- a changed byte changes the checksum (R105)

theorem set_eq_setIfInBounds (f : Frame) (i : Nat) (hi : i < 22) (b : Byte) :
    f.set i b hi = f.setIfInBounds i b :=
  frame_ext fun k _ => by simp [byteAt_set, byteAt_setIfInBounds, hi]

/-- A fold whose steps are injective in the accumulator is. -/
theorem foldl_injective {α β : Type} {g : β → α → β} (hg : ∀ a, Function.Injective fun c => g c a) (l : List α) :
    Function.Injective fun c => l.foldl g c := by
  induction l with
  | nil => exact Function.injective_id
  | cons a l ih => exact ih.comp (hg a)

theorem rev8_injective : Function.Injective rev8 := by
  intro x y h
  refine BitVec.eq_of_getLsbD_eq fun i _ => ?_
  have hbit := congrArg (BitVec.getMsbD · i) h
  simpa only [rev8, BitVec.getMsbD_reverse] using hbit

theorem crcReflected_injective (reflect : Bool) : Function.Injective (crcReflected reflect) := by
  cases reflect with
  | false => exact Function.injective_id
  | true => exact rev8_injective

/-- With bit 0 of the polynomial set, a shift keeps the bit it shifts out as bit 0 of its result (R102, R103). -/
theorem crcShift_getLsbD_zero {poly : Byte} (hpoly : poly.getLsbD 0 = true) (c : Byte) :
    (crcShift poly c).getLsbD 0 = c.msb := by
  unfold crcShift
  split
  next h => simp [hpoly, h]
  next h => simp [h]

theorem eq_of_shiftLeft_one_eq {c d : Byte} (hmsb : c.msb = d.msb) (h : c <<< 1 = d <<< 1) : c = d := by
  refine BitVec.eq_of_getLsbD_eq fun j hj => ?_
  rcases Nat.lt_or_ge j 7 with hj7 | hj7
  · have hbit := congrArg (BitVec.getLsbD · (j + 1)) h
    have hsucc : j + 1 < 8 := by omega
    simpa [BitVec.getLsbD_shiftLeft, hsucc, hj] using hbit
  · obtain rfl : j = 7 := by omega
    simpa [BitVec.msb_eq_getLsbD_last] using hmsb

theorem crcShift_injective {poly : Byte} (hpoly : poly.getLsbD 0 = true) : Function.Injective (crcShift poly) := by
  intro c d h
  have hmsb : c.msb = d.msb := by rw [← crcShift_getLsbD_zero hpoly, h, crcShift_getLsbD_zero hpoly]
  refine eq_of_shiftLeft_one_eq hmsb ?_
  rw [crcShift, crcShift, hmsb] at h
  split at h
  · exact (BitVec.xor_left_inj poly).mp h
  · exact h

theorem crcShift8_injective {poly : Byte} (hpoly : poly.getLsbD 0 = true) : Function.Injective (crcShift8 poly) :=
  (crcShift_injective hpoly).iterate 8

theorem crcByte_injective_register {poly : Byte} (hpoly : poly.getLsbD 0 = true) (reflect : Bool) (d : Byte) :
    Function.Injective fun c => crcByte poly reflect c d :=
  fun _ _ h => (BitVec.xor_left_inj _).mp (crcShift8_injective hpoly h)

theorem crcByte_injective_data {poly : Byte} (hpoly : poly.getLsbD 0 = true) (reflect : Bool) (c : Byte) :
    Function.Injective (crcByte poly reflect c) :=
  fun _ _ h => crcReflected_injective reflect ((BitVec.xor_right_inj _).mp (crcShift8_injective hpoly h))

theorem sum8_injective_byte (xs ys : List Byte) : Function.Injective fun d => sum8 (xs ++ d :: ys) := by
  intro d e h
  simp only [sum8, List.foldl_append, List.foldl_cons] at h
  exact (BitVec.add_right_inj _).mp (foldl_injective (fun a _ _ h => (BitVec.add_left_inj a).mp h) ys h)

theorem crc8_injective_byte {poly : Byte} (hpoly : poly.getLsbD 0 = true) (init : Byte) (reflect : Bool)
    (xorOut : Byte) (xs ys : List Byte) :
    Function.Injective fun d => crc8 poly init reflect xorOut (xs ++ d :: ys) := by
  intro d e h
  have hreg := crcReflected_injective reflect ((BitVec.xor_left_inj xorOut).mp h)
  simp only [List.foldl_append, List.foldl_cons] at hreg
  exact crcByte_injective_data hpoly reflect _ (foldl_injective (crcByte_injective_register hpoly reflect) ys hreg)

theorem asByte_crcPoly_getLsbD_zero (hkind : p.set.cksKind = .crc8) : (asByte p.set.crcPoly).getLsbD 0 = true := by
  simp [asByte, BitVec.getLsbD_ofNat, p.crcPoly_odd hkind]

/-- With the rest of the span fixed, the checksum tells every two values of a byte apart (R105). -/
theorem cksSpan_injective_byte (p : Params) (xs ys : List Byte) :
    Function.Injective fun d => cksSpan p (xs ++ d :: ys) := by
  cases hkind : p.set.cksKind with
  | sum8 => simpa only [cksSpan, hkind] using sum8_injective_byte xs ys
  | crc8 =>
    simpa only [cksSpan, hkind] using
      crc8_injective_byte (asByte_crcPoly_getLsbD_zero hkind) _ _ _ xs ys

theorem take_toList_setIfInBounds (f : Frame) (hk : k < n) (hn : n ≤ 22) (b : Byte) :
    (f.setIfInBounds k b).toList.take n = f.toList.take k ++ b :: (f.toList.take n).drop (k + 1) := by
  have hlen : k < (f.toList.take n).length := by rw [List.length_take, Vector.length_toList]; omega
  rw [Vector.toList_setIfInBounds, List.take_set, List.set_eq_take_append_cons_drop, if_pos hlen,
    List.take_take, Nat.min_eq_left (Nat.le_of_lt hk)]

theorem cks_injective_byte (f : Frame) (hk : k < p.set.cksEnd) :
    Function.Injective fun b => cks p (f.setIfInBounds k b) := by
  have hend := p.cksEnd_cases
  intro b c h
  simp only [cks, take_toList_setIfInBounds f hk (show p.set.cksEnd ≤ 22 by omega)] at h
  exact cksSpan_injective_byte p _ _ h

theorem setIfInBounds_byteAt_self (f : Frame) (k : Nat) : f.setIfInBounds k (byteAt f k) = f :=
  frame_ext fun j _ => by
    rw [byteAt_setIfInBounds]
    split
    next h => rw [h.1]
    next => rfl

/-- A byte outside the span does not count (R100). -/
theorem cks_setIfInBounds_of_le (hk : p.set.cksEnd ≤ k) : cks p (f.setIfInBounds k b) = cks p f := by
  rw [cks, cks, Vector.toList_setIfInBounds, List.take_set_of_le hk]

/-- A changed byte of the span changes the checksum (R105). -/
theorem cks_setIfInBounds_ne (hk : k < p.set.cksEnd) (hb : b ≠ byteAt f k) :
    cks p (f.setIfInBounds k b) ≠ cks p f := by
  rw [← congrArg (cks p) (setIfInBounds_byteAt_self f k)]
  exact (cks_injective_byte f hk).ne hb

/-- With CKS_END = 21 every byte of a frame is in the span or is the checksum byte (R105). -/
theorem cks_ne_byteAt_of_changed (hend : p.set.cksEnd = 21) (hk : k < 22) (hb : b ≠ byteAt f k)
    (hf : cks p f = byteAt f 21) : cks p (f.setIfInBounds k b) ≠ byteAt (f.setIfInBounds k b) 21 := by
  rw [byteAt_setIfInBounds]
  rcases Nat.lt_or_ge k 21 with hk21 | hk21
  · rw [if_neg (by omega), ← hf]
    exact cks_setIfInBounds_ne (hend ▸ hk21) hb
  · obtain rfl : k = 21 := by omega
    rw [if_pos ⟨rfl, by omega⟩, ← set_eq_setIfInBounds f 21 (by omega), cks_set_last, hf]
    exact hb.symm

-- ---------------------------------------------------------------- what a stream emits between two conditions

/-- From every state that meets `P` the stream emits `es` and leaves a state that meets `Q`. -/
def Runs (P : State → Prop) (is : List Instr) (es : List Event) (Q : State → Prop) : Prop :=
  ∀ s, P s → ∃ t, trace is s = some (es, t) ∧ Q t

namespace Runs

variable {P Q R : State → Prop} {is js : List Instr} {es fs : List Event}

theorem nil : Runs P [] [] P :=
  fun s hs => ⟨s, rfl, hs⟩

theorem append (h₁ : Runs P is es Q) (h₂ : Runs Q js fs R) : Runs P (is ++ js) (es ++ fs) R := by
  intro s hs
  obtain ⟨t, ht, hQ⟩ := h₁ s hs
  obtain ⟨u, hu, hR⟩ := h₂ t hQ
  exact ⟨u, trace_append ht hu, hR⟩

theorem feed (h : ∀ s, P s → (Machine.feed b s).ev = e ∧ Q (Machine.feed b s)) :
    Runs P [.feed b] [e] Q := by
  intro s hs
  obtain ⟨rfl, hQ⟩ := h s hs
  exact ⟨Machine.feed b s, rfl, hQ⟩

end Runs

theorem quiet_append (m n : Nat) : quiet m ++ quiet n = quiet (m + n) :=
  List.replicate_append_replicate

-- ---------------------------------------------------------------- a frame on the wire, in parts

/-- The FEEDs of the `n` bytes of a frame from position `k` on. -/
def wirePart (f : Frame) (k n : Nat) : List Instr := (List.range' k n).map fun j => .feed (byteAt f j)

theorem wire_eq_wirePart (f : Frame) : wire f = wirePart f 0 22 := by
  rw [wire, feeds, toList_eq_map_byteAt, List.map_map, List.range_eq_range']
  rfl

theorem wirePart_append (f : Frame) (k m n : Nat) : wirePart f k m ++ wirePart f (k + m) n = wirePart f k (m + n) := by
  rw [wirePart, wirePart, ← List.map_append, List.range'_append_1, wirePart]

theorem wirePart_one (f : Frame) (k : Nat) : wirePart f k 1 = [.feed (byteAt f k)] := rfl

/-- A frame's bytes before, at and after a position. -/
theorem wire_eq_split (f : Frame) (hk : k ≤ 21) :
    wire f = wirePart f 0 k ++ ([.feed (byteAt f k)] ++ wirePart f (k + 1) (21 - k)) := by
  have hafter := wirePart_append f k 1 (21 - k)
  have hall := wirePart_append f 0 k (1 + (21 - k))
  rw [Nat.zero_add, ← hafter, wirePart_one, show k + (1 + (21 - k)) = 22 by omega] at hall
  rw [hall, wire_eq_wirePart]

/-- The same bytes at other positions of another frame. -/
theorem wirePart_congr {l : Nat} (h : ∀ j, j < n → byteAt f (k + j) = byteAt g (l + j)) :
    wirePart f k n = wirePart g l n := by
  rw [wirePart, wirePart, List.range'_eq_map_range, List.range'_eq_map_range, List.map_map, List.map_map]
  refine List.map_congr_left fun j hj => ?_
  rw [List.mem_range] at hj
  simp [h j hj]

/-- None of the `n` bytes of the frame from position `k` on is the marker. -/
def CleanPart (p : Params) (f : Frame) (k n : Nat) : Prop := ∀ j, k ≤ j → j < k + n → byteAt f j ≠ markerByte p

theorem CleanPart.init (h : CleanPart p f k (n + 1)) : CleanPart p f k n :=
  fun j h₁ h₂ => h j h₁ (by omega)

theorem CleanPart.last (h : CleanPart p f k (n + 1)) : byteAt f (k + n) ≠ markerByte p :=
  h (k + n) (by omega) (by omega)

-- ---------------------------------------------------------------- the conditions a stream runs between

/-- A block with parameters `p` in HUNT. -/
structure Hunting (p : Params) (s : State) : Prop where
  config : s.params = p
  hunting : s.st = .hunt

/-- A block with parameters `p` that holds the first `k` bytes of `f`. -/
structure Collecting (p : Params) (f : Frame) (k : Nat) (s : State) : Prop extends HoldsPrefix f k s where
  config : s.params = p

/-- A block with parameters `p` in HUNT, with `f` in its latch. -/
structure Latched (p : Params) (f : Frame) (s : State) : Prop extends Hunting p s where
  frame : s.frm = f
  valid : s.frmValid = true

-- ---------------------------------------------------------------- one byte

/-- R81: the byte is discarded. -/
theorem runs_hunt_other (hb : b ≠ markerByte p) : Runs (Hunting p) [.feed b] [.none] (Hunting p) :=
  .feed fun s ⟨hp, hst⟩ => by
    rw [feed_hunt_other hst (hp ▸ hb)]
    exact ⟨rfl, hp, hst⟩

/-- R81, R82: in HUNT no byte gives an event. -/
theorem runs_hunt_any (p : Params) (b : Byte) : Runs (Hunting p) [.feed b] [.none] fun _ => True :=
  .feed fun s ⟨_, hst⟩ => by
    by_cases hb : b = markerByte s.params
    · simp [feed_hunt_marker hst hb]
    · simp [feed_hunt_other hst hb]

/-- R82: the marker begins the frame. -/
theorem runs_hunt_marker (hf : byteAt f 0 = markerByte p) :
    Runs (Hunting p) [.feed (byteAt f 0)] [.none] (Collecting p f 1) :=
  .feed fun s ⟨hp, hst⟩ => by
    rw [feed_hunt_marker hst (hp ▸ hf)]
    exact ⟨rfl, (holdsPrefix_one_startFrame s f).emit .none, hp⟩

/-- R83: the frame's next byte is stored. -/
theorem runs_collect_store (hk : k ≤ 20) (hb : byteAt f k ≠ markerByte p) :
    Runs (Collecting p f k) [.feed (byteAt f k)] [.none] (Collecting p f (k + 1)) :=
  .feed fun s ⟨h, hp⟩ => by
    rw [h.feed_clean hk (hp ▸ hb)]
    exact ⟨rfl, (h.storeByte hk).emit .none, hp⟩

/-- R84: whatever was held, the marker begins any frame `g` that starts with it. -/
theorem runs_collect_marker (hk : k ≤ 20 ∨ p.set.lastMarkerRule = .restart) (hg : byteAt g 0 = markerByte p) :
    Runs (Collecting p f k) [.feed (byteAt g 0)] [.errFramingMarker] (Collecting p g 1) :=
  .feed fun s ⟨h, hp⟩ => by
    have hr : restarts (byteAt g 0) s := ⟨hp ▸ hg, by rwa [h.index, hp]⟩
    rw [feed_restart h.collecting hr]
    exact ⟨rfl, (holdsPrefix_one_startFrame s g).emit .errFramingMarker, hp⟩

theorem HoldsPrefix.set_last (h : HoldsPrefix f 21 s) (b : Byte) : s.buf.set 21 b = f.set 21 b :=
  frame_ext fun j hj => by
    rw [byteAt_set, byteAt_set]
    split
    · rfl
    · exact h.bytes j (by omega)

/-- R85: the 22nd byte is compared with the checksum of the 21 held, which leaves position 21 out. -/
theorem runs_collect_last (hb : p.set.lastMarkerRule = .restart → b ≠ markerByte p) :
    Runs (Collecting p f 21) [.feed b] [if cks p f = b then Event.valid else Event.errChecksum] (Hunting p) :=
  .feed fun s ⟨h, hp⟩ => by
    have hidx := h.index
    have hr : ¬ restarts b s := by
      rintro ⟨hmarker, hi | hrule⟩
      · omega
      · exact hb (hp ▸ hrule) (hp ▸ hmarker)
    rw [feed_complete_eq_ite h.collecting hr (by omega), h.set_last, hp, cks_set_last]
    split
    · exact ⟨rfl, hp, rfl⟩
    · exact ⟨rfl, hp, rfl⟩

-- ---------------------------------------------------------------- runs of bytes that are no marker

theorem runs_hunt_clean : ∀ {n : Nat}, CleanPart p f k n →
    Runs (Hunting p) (wirePart f k n) (quiet n) (Hunting p)
  | 0, _ => .nil
  | n + 1, h => by
    rw [← wirePart_append, wirePart_one, ← quiet_append]
    exact (runs_hunt_clean h.init).append (runs_hunt_other h.last)

theorem runs_collect_clean : ∀ {n : Nat}, CleanPart p f k n → k + n ≤ 21 →
    Runs (Collecting p f k) (wirePart f k n) (quiet n) (Collecting p f (k + n))
  | 0, _, _ => .nil
  | n + 1, h, hle => by
    rw [← wirePart_append, wirePart_one, ← quiet_append]
    exact (runs_collect_clean h.init (by omega)).append (runs_collect_store (by omega) h.last)

-- ---------------------------------------------------------------- frames

/-- The first `k` bytes of a frame with a clean payload, from HUNT. -/
theorem runs_hunt_start (hf : byteAt f 0 = markerByte p) (hclean : CleanPart p f 1 20) (hk₁ : 1 ≤ k) (hk : k ≤ 21) :
    Runs (Hunting p) (wirePart f 0 k) (quiet k) (Collecting p f k) := by
  obtain ⟨n, rfl⟩ := Nat.exists_eq_add_of_le hk₁
  rw [← wirePart_append, wirePart_one, ← quiet_append]
  exact (runs_hunt_marker hf).append (runs_collect_clean (fun j h₁ h₂ => hclean j h₁ (by omega)) hk)

theorem ValidatedFrame.cleanPart (h : ValidatedFrame p f) : CleanPart p f 1 20 := by
  obtain ⟨-, -, -, hclean⟩ := h
  exact fun j h₁ h₂ => hclean j h₁ (by omega)

/-- A frame that can be received, from HUNT. -/
theorem runs_validated (hg : ValidatedFrame p g) :
    Runs (Hunting p) (wire g) (quiet 21 ++ [Event.valid]) (Latched p g) :=
  fun _ ⟨hp, hst⟩ => ⟨_, trace_wire_of_validated hst (hp ▸ hg), ⟨hp, rfl⟩, rfl, rfl⟩

/-- A frame that can be received, after its marker. -/
theorem runs_validated_rest (hg : ValidatedFrame p g) :
    Runs (Collecting p g 1) (wirePart g 1 21) (quiet 20 ++ [Event.valid]) (Latched p g) := by
  rintro s ⟨h, hp⟩
  have hrest : feeds (g.toList.drop 1) = wirePart g 1 21 := by rw [toList_eq_map_byteAt]; rfl
  exact ⟨s.received g, hrest ▸ h.trace_rest (hp ▸ hg) (by decide) (n := 20) rfl, ⟨hp, rfl⟩, rfl, rfl⟩

/-- A frame that can be received, while another is held: its marker abandons that one (R84). -/
theorem runs_validated_resync (hg : ValidatedFrame p g) (hk : k ≤ 20 ∨ p.set.lastMarkerRule = .restart) :
    Runs (Collecting p f k) (wire g) ([Event.errFramingMarker] ++ (quiet 20 ++ [Event.valid])) (Latched p g) := by
  have ⟨hmarker, _⟩ := hg
  rw [wire_eq_wirePart, ← wirePart_append g 0 1 21]
  exact (runs_collect_marker hk hmarker).append (runs_validated_rest hg)

/-- A frame with a clean payload and a wrong checksum byte, from HUNT (R85). -/
theorem runs_mismatch (hf : byteAt f 0 = markerByte p) (hclean : CleanPart p f 1 20)
    (hlast : p.set.lastMarkerRule = .restart → byteAt f 21 ≠ markerByte p) (hcks : cks p f ≠ byteAt f 21) :
    Runs (Hunting p) (wire f) (quiet 21 ++ [Event.errChecksum]) (Hunting p) := by
  have hcompletes := runs_collect_last (f := f) hlast
  rw [if_neg hcks] at hcompletes
  rw [wire_eq_wirePart, ← wirePart_append f 0 21 1]
  exact (runs_hunt_start hf hclean (by decide) (by decide)).append hcompletes

-- ---------------------------------------------------------------- a frame with one byte changed (R93)

theorem byteAt_setIfInBounds_ne {c : Byte} {j : Nat} (hb : b ≠ c) (hj : byteAt f j ≠ c) :
    byteAt (f.setIfInBounds k b) j ≠ c := by
  rw [byteAt_setIfInBounds]
  split
  · exact hb
  · exact hj

theorem byteAt_setIfInBounds_zero (f : Frame) (b : Byte) (hk : 1 ≤ k) : byteAt (f.setIfInBounds k b) 0 = byteAt f 0 := by
  rw [byteAt_setIfInBounds, if_neg (by omega)]

theorem CleanPart.setIfInBounds {l : Nat} (h : CleanPart p f k n) (hb : b ≠ markerByte p) :
    CleanPart p (f.setIfInBounds l b) k n :=
  fun j h₁ h₂ => byteAt_setIfInBounds_ne hb (h j h₁ h₂)

/-- The frame begun by a marker at position `k` of the frame `f`: the bytes that follow come `k` positions early. -/
def restartedAt (p : Params) (f : Frame) (k : Nat) : Frame :=
  Vector.ofFn fun j : Fin 22 => if j.val = 0 then markerByte p else byteAt f (j.val + k)

theorem byteAt_restartedAt_zero (p : Params) (f : Frame) (k : Nat) : byteAt (restartedAt p f k) 0 = markerByte p := by
  simp [byteAt_eq_getElem, restartedAt]

theorem byteAt_restartedAt {j : Nat} (p : Params) (f : Frame) (k : Nat) (h₁ : 1 ≤ j) (hj : j < 22) :
    byteAt (restartedAt p f k) j = byteAt f (j + k) := by
  rw [byteAt_eq_getElem _ hj, restartedAt, Vector.getElem_ofFn, if_neg (Nat.ne_of_gt h₁)]

/-- R84: a frame whose byte at position `k` is changed to the marker is abandoned there, and the rest is collected anew. -/
theorem runs_changedToMarker (hf : ValidatedFrame p f) (hlast : byteAt f 21 ≠ markerByte p) (hk₁ : 1 ≤ k) (hk : k ≤ 21)
    (hrule : k ≤ 20 ∨ p.set.lastMarkerRule = .restart) :
    Runs (Hunting p) (wire (f.setIfInBounds k (markerByte p)))
      (quiet k ++ ([Event.errFramingMarker] ++ quiet (21 - k)))
      (Collecting p (restartedAt p f k) (1 + (21 - k))) := by
  have hbefore : wirePart (f.setIfInBounds k (markerByte p)) 0 k = wirePart f 0 k :=
    wirePart_congr fun j hj => by rw [byteAt_setIfInBounds, if_neg (by omega)]
  have hat : byteAt (f.setIfInBounds k (markerByte p)) k = byteAt (restartedAt p f k) 0 := by
    rw [byteAt_setIfInBounds, if_pos ⟨rfl, by omega⟩, byteAt_restartedAt_zero]
  have hafter : wirePart (f.setIfInBounds k (markerByte p)) (k + 1) (21 - k) =
      wirePart (restartedAt p f k) 1 (21 - k) :=
    wirePart_congr fun j hj => by
      rw [byteAt_setIfInBounds, if_neg (by omega), byteAt_restartedAt p f k (by omega) (by omega)]
      congr 1
      omega
  have hclean : CleanPart p (restartedAt p f k) 1 (21 - k) := by
    intro j h₁ h₂
    rw [byteAt_restartedAt p f k h₁ (by omega)]
    rcases Nat.lt_or_ge (j + k) 21 with hjk | hjk
    · exact hf.cleanPart (j + k) (by omega) (by omega)
    · rwa [show j + k = 21 by omega]
  have ⟨hmarker, _⟩ := hf
  rw [wire_eq_split _ hk, hbefore, hat, hafter]
  exact (runs_hunt_start hmarker hf.cleanPart hk₁ hk).append
    ((runs_collect_marker hrule (byteAt_restartedAt_zero p f k)).append (runs_collect_clean hclean (by omega)))

/-- R93 (b), and the positions of (d) that behave alike: what follows the changed byte is too short to complete a frame, and
the next frame's marker abandons it. -/
theorem runs_changedToMarker_next (hf : ValidatedFrame p f) (hlast : byteAt f 21 ≠ markerByte p)
    (hg : ValidatedFrame p g) (hk₁ : 1 ≤ k) (hk : k ≤ 21)
    (hrule : 2 ≤ k ∧ k ≤ 20 ∨ p.set.lastMarkerRule = .restart) :
    Runs (Hunting p) (wire (f.setIfInBounds k (markerByte p)) ++ wire g)
      (quiet k ++ [Event.errFramingMarker] ++ quiet (21 - k) ++ [Event.errFramingMarker] ++ quiet 20 ++ [Event.valid])
      (Latched p g) := by
  have h := (runs_changedToMarker hf hlast hk₁ hk (hrule.imp_left And.right)).append
    (runs_validated_resync hg (hrule.imp_left fun _ => by omega))
  simpa only [List.append_assoc] using h

/-- R93 (d), position 1: the 20 bytes that follow and the next frame's marker make up a frame of 22, and the rest of the next
frame is discarded in HUNT. -/
theorem runs_changedToMarker_one (hrule : p.set.lastMarkerRule = .asChecksum) (hf : ValidatedFrame p f)
    (hlast : byteAt f 21 ≠ markerByte p) (hg : ValidatedFrame p g) :
    Runs (Hunting p) (wire (f.setIfInBounds 1 (markerByte p)) ++ wire g)
      ([Event.none, Event.errFramingMarker] ++ quiet 20 ++
        [if cks p (restartedAt p f 1) = markerByte p then Event.valid else Event.errChecksum] ++ quiet 21)
      fun _ => True := by
  have ⟨hmarker, _⟩ := hg
  have hcompletes := runs_collect_last (f := restartedAt p f 1) (b := markerByte p) (p := p)
    (by simp [hrule])
  have hdiscards := (runs_hunt_clean hg.cleanPart).append (runs_hunt_any p (byteAt g 21))
  have h := (runs_changedToMarker hf hlast (k := 1) (by decide) (by decide) (.inl (by decide))).append
    (hcompletes.append hdiscards)
  rw [wire_eq_split g (k := 0) (by decide), hmarker, ← wirePart_append g 1 20 1]
  exact h

end Sys2Proof.Machine

-- ---------------------------------------------------------------- the obligations

namespace Sys2Proof.Proofs

open Sys2Proof.Machine

/-- Settles O17: below `IDX = 21` the byte goes to `BUF[IDX]`, and `IDX + 1` fits its five bits. -/
theorem feedCollectStores : Obligations.FeedCollectStores := by
  intro b s hst _ hi hb
  refine ⟨_, exec_feed b s, ?_⟩
  rw [feed_store hst (fun hr => hb hr.1) hi]
  refine ⟨rfl, idx_succ_toNat hi, ?_, fun k hk => ?_⟩
  · rw [State.emit_buf, State.storeByte_buf, byteAt_setIfInBounds, if_pos ⟨rfl, by omega⟩]
  · rw [State.emit_buf, State.storeByte_buf, byteAt_setIfInBounds, if_neg (fun h => hk h.1.symm)]

/-- Settles O22: a VALID is the completion of a matching frame, and no other event writes the latch. -/
theorem latchOnlyOnValid : Obligations.LatchOnlyOnValid := by
  intro i s t h hi
  refine ⟨fun hv => ?_, exec_latch_of_ev_ne_valid h hi⟩
  obtain ⟨b, rfl, -, -, hcks, rfl⟩ := exec_ev_valid h hv
  exact ⟨b, rfl, rfl, rfl, (checksumMatches_iff _ _).mp ((checksumMatches_set_last_iff _ _ _).mpr hcks)⟩

/-- Settles O46: the step keeps I5, and its VALID has set `FRM_VALID`. -/
theorem validFramesAreClean : Obligations.ValidFramesAreClean := by
  intro i s t hinv h hv
  refine (hinv.exec h).latchValidated ?_
  obtain ⟨b, -, -, -, -, rfl⟩ := exec_ev_valid h hv
  rfl

/-- Settles O47: a VALID returns to HUNT, and from HUNT, where no byte is held, its 22 bytes are all fed. -/
theorem validSpacing : Obligations.ValidSpacing := by
  refine ⟨fun i s t h hv => ?_, fun is s t es hst h hlast => ?_⟩
  · obtain ⟨b, -, -, -, -, rfl⟩ := exec_ev_valid h hv
    exact ⟨rfl, rfl⟩
  · simpa [heldBytes_of_hunt hst] using le_heldBytes_add_feedCount_of_getLast?_valid h hlast

/-- Settles O48, by the reception of a whole frame. -/
theorem wholeFrameReceived : Obligations.WholeFrameReceived :=
  fun _ _ => trace_wire_of_validated

/-- Settles O50: the checksum tells the changed byte, and the block hunts when the next frame comes. -/
theorem corruptedByteOneChecksumError : Obligations.CorruptedByteOneChecksumError := by
  intro s f g k b hst hend hf hg hk₁ hk hb hbm
  have ⟨hmarker, hcks, hlast, _⟩ := hf
  have hbad : Runs (Hunting s.params) (wire (f.setIfInBounds k b)) (quiet 21 ++ [Event.errChecksum])
      (Hunting s.params) :=
    runs_mismatch ((byteAt_setIfInBounds_zero f b hk₁).trans hmarker) (hf.cleanPart.setIfInBounds hbm)
      (fun hrule => byteAt_setIfInBounds_ne hbm (hlast hrule))
      (cks_ne_byteAt_of_changed hend (by omega) hb hcks)
  obtain ⟨t, htrace, ht⟩ := hbad.append (runs_validated hg) s ⟨rfl, hst⟩
  exact ⟨t, by simpa only [List.append_assoc] using htrace, ht.hunting, ht.frame, ht.valid⟩

/-- Settles O51: under RESTART the marker restarts at every position, also the last. -/
theorem byteChangedToMarkerRestart : Obligations.ByteChangedToMarkerRestart := by
  intro s f g k hst hrule hf hg hk₁ hk
  have ⟨_, _, hlast, _⟩ := hf
  obtain ⟨t, htrace, ht⟩ := runs_changedToMarker_next hf (hlast hrule) hg hk₁ hk (.inr hrule) s ⟨rfl, hst⟩
  exact ⟨t, htrace, ht.hunting, ht.frame, ht.valid⟩

/-- Settles O52: without its marker no byte of the frame begins one in HUNT. -/
theorem corruptedMarkerSilent : Obligations.CorruptedMarkerSilent := by
  intro s f g b hst hf hlast hg hb
  have hclean : CleanPart s.params (f.set 0 b) 0 22 := by
    intro j _ hj
    rw [byteAt_set]
    split
    next => exact hb
    next h0 =>
      rcases Nat.lt_or_ge j 21 with h | h
      · exact hf.cleanPart j (by omega) (by omega)
      · rwa [show j = 21 by omega]
  have hsilent := runs_hunt_clean hclean
  rw [← wire_eq_wirePart] at hsilent
  obtain ⟨t, htrace, ht⟩ := hsilent.append (runs_validated hg) s ⟨rfl, hst⟩
  exact ⟨t, htrace, ht.hunting, ht.frame, ht.valid⟩

/-- Settles O53: at 2..20 two restarts; at 21 the marker is compared as the checksum; at 1 the next frame's marker is. -/
theorem byteChangedToMarkerAsChecksum : Obligations.ByteChangedToMarkerAsChecksum := by
  intro s f g hst hrule hf hlast hg
  refine ⟨fun k hk₁ hk => ?_, ?_, ?_⟩
  · obtain ⟨t, htrace, ht⟩ :=
      runs_changedToMarker_next hf hlast hg (by omega) (by omega) (.inl ⟨hk₁, hk⟩) s ⟨rfl, hst⟩
    exact ⟨t, htrace, ht.frame⟩
  · have ⟨hmarker, hcks, _, _⟩ := hf
    have hclean : CleanPart s.params (f.set 21 (markerByte s.params)) 1 20 := fun j h₁ h₂ => by
      rw [byteAt_set, if_neg (by omega)]
      exact hf.cleanPart j h₁ h₂
    have hbad := runs_mismatch (f := f.set 21 (markerByte s.params)) (by simpa [byteAt_set] using hmarker) hclean
      (by simp [hrule]) (by simpa [byteAt_set, cks_set_last, hcks] using hlast)
    obtain ⟨t, htrace, ht⟩ := hbad.append (runs_validated hg) s ⟨rfl, hst⟩
    exact ⟨t, by simpa only [List.append_assoc] using htrace, ht.frame⟩
  · rw [set_eq_setIfInBounds]
    obtain ⟨t, htrace, -⟩ := runs_changedToMarker_one hrule hf hlast hg s ⟨rfl, hst⟩
    exact ⟨t, htrace⟩

/-- Settles O54: position 20 is outside the span, so the changed frame can be received. -/
theorem shortSpanMissesByteTwenty : Obligations.ShortSpanMissesByteTwenty := by
  intro s f b hst hend hf hb
  obtain ⟨hmarker, hcks, hlast, hclean⟩ := hf
  have hvalid : ValidatedFrame s.params (f.set 20 b) := by
    rw [set_eq_setIfInBounds]
    refine ⟨(byteAt_setIfInBounds_zero f b (by decide)).trans hmarker, ?_,
      fun hrule => byteAt_setIfInBounds_ne hb (hlast hrule), fun j h₁ h₂ => byteAt_setIfInBounds_ne hb (hclean j h₁ h₂)⟩
    rw [cks_setIfInBounds_of_le (by omega), hcks, byteAt_setIfInBounds, if_neg (by omega)]
  exact ⟨_, trace_wire_of_validated hst hvalid, rfl⟩

/-- Settles O15: HUNT's case of a byte that is no marker. -/
theorem feedHuntDiscards : Obligations.FeedHuntDiscards := by
  intro b s hst hb
  rw [exec_feed, feed_hunt_other hst hb]
  rfl

/-- Settles O16: HUNT's case of the marker. -/
theorem feedHuntMarkerBegins : Obligations.FeedHuntMarkerBegins := by
  rintro b s hst rfl
  rw [exec_feed, feed_hunt_marker hst rfl]
  rfl

/-- Settles O18: both of R84's index ranges restart the frame. -/
theorem feedMarkerRestarts : Obligations.FeedMarkerRestarts := by
  rintro b s hst rfl hidx
  have hr : restarts (markerByte s.params) s := ⟨rfl, hidx.imp And.right And.right⟩
  rw [exec_feed, feed_restart hst hr, startFrame_of_collect hst]
  rfl

/-- Settles O19: at `IDX = 21` only the marker under RESTART restarts; any other byte completes the frame. -/
theorem feedCompletesFrame : Obligations.FeedCompletesFrame := by
  intro b s hst hidx hb
  have hr : ¬ restarts b s := fun hr => hb ⟨hr.1, hr.2.resolve_left (by omega)⟩
  rw [exec_feed, feed_complete_eq_ite hst hr (by omega)]
  exact ⟨fun hm => by rw [if_pos hm]; rfl, fun hm => by rw [if_neg hm]; rfl⟩

/-- Settles O20: LAST_MARKER_RULE decides between the restart and the completion. -/
theorem markerAsLastByte : Obligations.MarkerAsLastByte := by
  intro b s hst hidx hb
  refine ⟨fun hrule => ?_, fun hrule => ?_⟩
  · rw [exec_feed, feed_restart hst ⟨hb, .inr hrule⟩, startFrame_of_collect hst]
    rfl
  · have hr : ¬ restarts b s := by
      rintro ⟨-, hi | hrestart⟩
      · omega
      · simp [hrule] at hrestart
    rw [exec_feed, feed_complete_eq_ite hst hr (by omega)]
    rfl

end Sys2Proof.Proofs

/-! The statements of 41_checksum.md: the span of the checksum (R100), SUM8 as a sum (R101), the CRC's parameters and check
values (R103), and what the two kinds detect (R105). -/

namespace Sys2Proof.Machine

variable {p : Params} {f : Frame} {k : Nat}

-- ---------------------------------------------------------------- the span (R100)

theorem cks_eq_cksSpan_map_byteAt (p : Params) (f : Frame) :
    cks p f = cksSpan p ((List.range p.set.cksEnd).map (byteAt f)) := by
  have hend := p.cksEnd_cases
  rw [cks, take_toList_eq_map_byteAt f (by omega)]

theorem cksSpan_of_sum8 (h : p.set.cksKind = .sum8) (ds : List Byte) : cksSpan p ds = sum8 ds := by
  simp only [cksSpan, h]

theorem cksSpan_of_crc8 (h : p.set.cksKind = .crc8) (ds : List Byte) :
    cksSpan p ds = crc8 (asByte p.set.crcPoly) (asByte p.set.crcInit) p.set.crcReflect (asByte p.set.crcXorOut) ds := by
  simp only [cksSpan, h]

-- ---------------------------------------------------------------- SUM8 is a sum (R101)

/-- Bytes are added in the ring of bytes, where the carry out of bit 7 is discarded (R101). -/
theorem sum8_eq_sum (ds : List Byte) : sum8 ds = ds.sum :=
  List.sum_eq_foldl.symm

theorem toNat_sum (ds : List Byte) : ds.sum.toNat = (ds.map BitVec.toNat).sum % 256 := by
  induction ds with
  | nil => rfl
  | cons d ds ih => rw [List.sum_cons, BitVec.toNat_add, ih, List.map_cons, List.sum_cons, Nat.add_mod_mod]

/-- Adding to one byte adds to the sum, whichever byte it is (R105). -/
theorem sum8_add_byte (xs ys : List Byte) (d e : Byte) :
    sum8 (xs ++ (d + e) :: ys) = sum8 (xs ++ d :: ys) + e := by
  simp only [sum8_eq_sum, List.sum_append, List.sum_cons]
  ring

theorem cks_add_byte (hkind : p.set.cksKind = .sum8) (f : Frame) (hk : k < p.set.cksEnd) (e : Byte) :
    cks p (f.setIfInBounds k (byteAt f k + e)) = cks p f + e := by
  have hend := p.cksEnd_cases
  have hle : p.set.cksEnd ≤ 22 := by omega
  calc cks p (f.setIfInBounds k (byteAt f k + e))
      = cks p (f.setIfInBounds k (byteAt f k)) + e := by
        simp only [cks, cksSpan_of_sum8 hkind, take_toList_setIfInBounds f hk hle, sum8_add_byte]
    _ = cks p f + e := by rw [setIfInBounds_byteAt_self]

-- ---------------------------------------------------------------- the CRC is affine (R102, R105)

theorem xor_xor_xor_right_cancel (x y z : Byte) : (x ^^^ z) ^^^ (y ^^^ z) = x ^^^ y := by
  calc (x ^^^ z) ^^^ (y ^^^ z)
      = (x ^^^ y) ^^^ (z ^^^ z) := by ac_rfl
    _ = x ^^^ y := by rw [BitVec.xor_self, BitVec.xor_zero]

theorem crcReflected_xor (reflect : Bool) (x y : Byte) :
    crcReflected reflect (x ^^^ y) = crcReflected reflect x ^^^ crcReflected reflect y := by
  cases reflect with
  | false => rfl
  | true => exact BitVec.eq_of_getLsbD_eq fun i _ => by simp [crcReflected, rev8, BitVec.getLsbD_reverse]

/-- A shift is linear: the polynomial is added exactly when an odd number of the summands shift a 1 out (R102). -/
theorem crcShift_xor (poly c d : Byte) : crcShift poly (c ^^^ d) = crcShift poly c ^^^ crcShift poly d := by
  simp only [crcShift, BitVec.msb_xor, BitVec.shiftLeft_xor_distrib]
  cases c.msb with
  | false =>
    cases d.msb with
    | false => rfl
    | true => exact BitVec.xor_assoc ..
  | true =>
    cases d.msb with
    | false =>
      change c <<< 1 ^^^ d <<< 1 ^^^ poly = c <<< 1 ^^^ poly ^^^ d <<< 1
      ac_rfl
    | true => exact (xor_xor_xor_right_cancel ..).symm

theorem crcShift8_xor (poly c d : Byte) : crcShift8 poly (c ^^^ d) = crcShift8 poly c ^^^ crcShift8 poly d :=
  Function.Semiconj₂.iterate (crcShift_xor poly) 8 c d

theorem crcByte_xor (poly : Byte) (reflect : Bool) (c₁ c₂ d₁ d₂ : Byte) :
    crcByte poly reflect (c₁ ^^^ c₂) (d₁ ^^^ d₂) = crcByte poly reflect c₁ d₁ ^^^ crcByte poly reflect c₂ d₂ := by
  rw [crcByte, crcByte, crcByte, ← crcShift8_xor, crcReflected_xor]
  congr 1
  ac_rfl

theorem foldl_crcByte_xor (poly : Byte) (reflect : Bool) {xs ys : List Byte} (h : xs.length = ys.length) (c₁ c₂ : Byte) :
    (List.zipWith (fun x y => x ^^^ y) xs ys).foldl (crcByte poly reflect) (c₁ ^^^ c₂) =
      xs.foldl (crcByte poly reflect) c₁ ^^^ ys.foldl (crcByte poly reflect) c₂ := by
  induction xs generalizing ys c₁ c₂ with
  | nil =>
    obtain rfl := List.eq_nil_of_length_eq_zero h.symm
    rfl
  | cons x xs ih =>
    obtain ⟨y, ys, rfl⟩ := List.exists_cons_of_length_eq_add_one h.symm
    simp only [List.zipWith_cons_cons, List.foldl_cons, crcByte_xor]
    exact ih (Nat.succ.inj h) _ _

/-- The change of the CRC is the CRC, from 0 and with final value 0, of the change of the span (R105). -/
theorem crc8_xor_crc8 (poly init xorOut : Byte) (reflect : Bool) {xs ys : List Byte} (h : xs.length = ys.length) :
    crc8 poly init reflect xorOut xs ^^^ crc8 poly init reflect xorOut ys =
      crc8 poly 0 reflect 0 (List.zipWith (fun x y => x ^^^ y) xs ys) := by
  simp only [crc8]
  rw [xor_xor_xor_right_cancel, ← crcReflected_xor, ← foldl_crcByte_xor poly reflect h, BitVec.xor_self]
  exact BitVec.xor_zero.symm

theorem zipWith_xor_replicate_zero (xs : List Byte) :
    List.zipWith (fun x y => x ^^^ y) xs (List.replicate xs.length 0) = xs :=
  List.ext_getElem (by simp) (by simp)

theorem crc8_zipWith_xor (poly init xorOut : Byte) (reflect : Bool) {xs ys : List Byte} (h : xs.length = ys.length) :
    crc8 poly init reflect xorOut (List.zipWith (fun x y => x ^^^ y) xs ys) =
      crc8 poly init reflect xorOut xs ^^^ crc8 poly init reflect xorOut ys ^^^
        crc8 poly init reflect xorOut (List.replicate xs.length 0) := by
  have hlen : (List.zipWith (fun x y => x ^^^ y) xs ys).length = xs.length := by simp [h]
  have hzeros := crc8_xor_crc8 poly init xorOut reflect (hlen.trans (List.length_replicate (a := 0)).symm)
  rw [← hlen, zipWith_xor_replicate_zero, hlen] at hzeros
  rw [crc8_xor_crc8 poly init xorOut reflect h, ← hzeros, BitVec.xor_assoc, BitVec.xor_self, BitVec.xor_zero]

end Sys2Proof.Machine

-- ---------------------------------------------------------------- the obligations

namespace Sys2Proof.Proofs

open Sys2Proof.Machine

/-- Settles O29: the span stops at `CKS_END ≤ 21`, before position 21. -/
theorem checksumSpan : Obligations.ChecksumSpan :=
  ⟨fun p f => ⟨fun h => (cks_eq_cksSpan_map_byteAt p f).trans (cksSpan_of_sum8 h _),
      fun h => (cks_eq_cksSpan_map_byteAt p f).trans (cksSpan_of_crc8 h _)⟩,
    cks_set_last⟩

/-- Settles O30: SUM8 is a sum in the ring of bytes. -/
theorem sum8IsSumModulo256 : Obligations.Sum8IsSumModulo256 := by
  intro ds
  rw [sum8_eq_sum, toNat_sum]

/-- Settles O32: the change between two spans has the CRC of their XOR, and the same change lies between that XOR and the zero
span. -/
theorem crcIsAffine : Obligations.CrcIsAffine :=
  fun poly init xorOut reflect _ _ h => crc8_zipWith_xor poly init xorOut reflect h

/-- Settles O33: with `CKS_END = 21` a byte is in the span, where it changes the checksum, or is the checksum byte. -/
theorem oneByteChangeDetected : Obligations.OneByteChangeDetected :=
  fun _ _ _ _ hend hk hb hf => cks_ne_byteAt_of_changed hend hk hb hf

/-- Settles O34: the sum gains 1 at one position and loses it at the other. -/
theorem twoByteChangeUndetectedBySum : Obligations.TwoByteChangeUndetectedBySum := by
  intro p f i j hkind hij hi hj
  have hother : byteAt (f.setIfInBounds i (byteAt f i + 1)) j = byteAt f j := by
    rw [byteAt_setIfInBounds, if_neg fun h => hij h.1]
  rw [← hother, sub_eq_add_neg, cks_add_byte hkind _ hj, cks_add_byte hkind _ hi, add_neg_cancel_right]

/-- Settles O31: WF_CRC gives bit 0, SUM8 reads the span alone, and the check values are computed. -/
theorem crcParameters : Obligations.CrcParameters := by
  refine ⟨fun p hkind => asByte_crcPoly_getLsbD_zero hkind, fun p q f hp hq hend => ?_, ?_, ?_⟩
  · rw [cks, cks, cksSpan_of_sum8 hp, cksSpan_of_sum8 hq, hend]
  · decide +kernel
  · decide +kernel

end Sys2Proof.Proofs

/-! The statements of 42_decode.md: the value of a field (R111) and of the mode bit (R112), the outputs of the two modes (R113,
R114), the outputs before the first VALID (R117), and when the outputs change (R118). -/

namespace Sys2Proof.Machine

variable {i : Instr} {s t : State}

-- ---------------------------------------------------------------- the value of a field and of a bit (R10, R111, R112)

theorem toNat_zext16 (x : Byte) : (zext16 x).toNat = x.toNat :=
  BitVec.toNat_setWidth_of_le (by decide)

theorem toNat_pair (hi lo : Byte) : (pair hi lo).toNat = 256 * hi.toNat + lo.toNat := by
  rw [pair, BitVec.toNat_append, ← Nat.shiftLeft_add_eq_or_of_lt lo.isLt, Nat.shiftLeft_eq, Nat.mul_comm]

theorem fld_one (p : Params) (f : Frame) (off : Nat) : fld p f off .one = zext16 (byteAt f off) := rfl

theorem fld_two_of_be {p : Params} (h : p.set.fieldOrder = .be) (f : Frame) (off : Nat) :
    fld p f off .two = pair (byteAt f off) (byteAt f (off + 1)) := by
  simp only [fld, h]

theorem fld_two_of_le {p : Params} (h : p.set.fieldOrder = .le) (f : Frame) (off : Nat) :
    fld p f off .two = pair (byteAt f (off + 1)) (byteAt f off) := by
  simp only [fld, h]

theorem bitOf_eq_div_mod (x : Byte) (k : Nat) : bitOf x k = x.toNat / 2 ^ k % 2 :=
  Nat.toNat_testBit x.toNat k

theorem isSettings_iff (p : Params) (f : Frame) :
    isSettings p f = true ↔ bitOf (byteAt f p.set.modeOff) p.set.modeBit = p.set.modePol :=
  beq_iff_eq

/-- The three fields of one width at three offsets, as `dec_vin` and `dec_vout` are put together (R114). -/
theorem flds_eq_map (p : Params) (f : Frame) (offs : Vector Nat 3) (w : FieldWidth) :
    #v[fld p f offs[0] w, fld p f offs[1] w, fld p f offs[2] w] = offs.map fun off => fld p f off w :=
  Vector.ext fun j hj => by
    rw [Vector.getElem_map]
    match j, hj with
    | 0, _ => rfl
    | 1, _ => rfl
    | 2, _ => rfl

theorem decodeFields_vin (p : Params) (f : Frame) :
    (decodeFields p f).vin = p.set.offVin.map fun off => fld p f off p.set.wV :=
  flds_eq_map p f p.set.offVin p.set.wV

theorem decodeFields_vout (p : Params) (f : Frame) :
    (decodeFields p f).vout = p.set.offVout.map fun off => fld p f off p.set.wV :=
  flds_eq_map p f p.set.offVout p.set.wV

-- ---------------------------------------------------------------- the fields of the all-zero frame (R117)

@[simp] theorem fld_zeroFrame (p : Params) (off : Nat) (w : FieldWidth) : fld p zeroFrame off w = 0 := by
  cases w with
  | one => rw [fld_one, byteAt_zeroFrame]; rfl
  | two =>
    cases h : p.set.fieldOrder with
    | be => rw [fld_two_of_be h, byteAt_zeroFrame, byteAt_zeroFrame]; rfl
    | le => rw [fld_two_of_le h, byteAt_zeroFrame, byteAt_zeroFrame]; rfl

/-- The mode bit of the all-zero frame is 0, which is MODE_POL's value exactly where MODE_POL = 0. -/
theorem isSettings_zeroFrame (p : Params) : isSettings p zeroFrame = decide (p.set.modePol = 0) := by
  rw [Bool.eq_iff_iff, isSettings_iff, byteAt_zeroFrame, bitOf_eq_div_mod, decide_eq_true_eq, eq_comm]
  simp

theorem decodeFields_zeroFrame (p : Params) : decodeFields p zeroFrame =
    { mode := decide (p.set.modePol = 0), rpm := 0, ma := 0, err := 0, spdMin := 0, spdMax := 0,
      vin := #v[0, 0, 0], vout := #v[0, 0, 0], modeByte := 0 } := by
  simp only [decodeFields, isSettings_zeroFrame, fld_zeroFrame, byteAt_zeroFrame]

-- ---------------------------------------------------------------- what a step leaves of the outputs (R118)

theorem outputs_inSync_iff (s : State) : (outputs s).inSync = true ↔ s.st = .collect :=
  beq_iff_eq

theorem tick_params (s : State) : (tick s).params = s.params := by
  obtain ⟨-, -, -, heq⟩ | ⟨-, -, -, heq⟩ | ⟨-, heq⟩ := tick_cases s <;> simp [heq]

/-- No command changes the configuration (R184). -/
theorem exec_params (h : exec i s = .next t) : t.params = s.params := by
  obtain ⟨-, rfl⟩ | ⟨b, -, rfl⟩ | ⟨-, rfl⟩ | ⟨-, rfl⟩ := exec_next_cases h
  · rfl
  · exact (feed_params_inputs_freeCount b s).1
  · exact tick_params s
  · rfl

/-- A reset is decoded from `rst = 1` alone (R60). -/
theorem decode_ne_reset_of_not_rst {x : Ports} (h : x.rst = false) : decode x ≠ .reset := by
  intro hreset
  have hrst : (encode .reset).rst = x.rst := hreset ▸ encode_decode_rst x
  exact Bool.noConfusion (hrst.trans h)

end Sys2Proof.Machine

-- ---------------------------------------------------------------- the obligations

namespace Sys2Proof.Proofs

open Sys2Proof.Machine

/-- Settles O35: a one-byte field is extended by zeros, and a two-byte field is its two bytes side by side. -/
theorem fieldExtraction : Obligations.FieldExtraction := by
  intro p f off
  refine ⟨?_, fun h => ?_, fun h => ?_⟩
  · rw [fld_one, toNat_zext16]
  · rw [fld_two_of_be h, toNat_pair]
  · rw [fld_two_of_le h, toNat_pair]

/-- Settles O36: the mode bit is read by arithmetic. -/
theorem modeOutput : Obligations.ModeOutput := by
  intro s
  rw [← bitOf_eq_div_mod]
  exact isSettings_iff s.params s.frm

/-- Settles O37: the decoder's own equations. -/
theorem defaultModeOutputs : Obligations.DefaultModeOutputs :=
  fun _ => ⟨rfl, rfl, rfl⟩

/-- Settles O38: the decoder's own equations, with the two arrays as maps over their offsets. -/
theorem settingsModeOutputs : Obligations.SettingsModeOutputs := by
  intro s
  refine ⟨rfl, rfl, fun j hj => ⟨?_, ?_⟩, rfl⟩
  · simp only [outputs, decodeFields_vin, Vector.getElem_map]
  · simp only [outputs, decodeFields_vout, Vector.getElem_map]

/-- Settles O40: the fields of the all-zero frame, which reset leaves and the latch's invariant I6 keeps. -/
theorem outputsBeforeFirstValid : Obligations.OutputsBeforeFirstValid :=
  ⟨decodeFields_zeroFrame, State.resetWith_frm, fun _ h => h.latchZero⟩

/-- Settles O41: a step that is no reset and emits no VALID leaves the latch and the configuration, which alone are decoded. -/
theorem outputsStable : Obligations.OutputsStable := by
  refine ⟨fun s => ⟨outputs_inSync_iff s, rfl, rfl, outputs_ev s⟩, fun s t hstep hev hrst => ?_⟩
  obtain ⟨x, rest, hinputs, hexec⟩ := step_next_cases hstep
  obtain ⟨hfrm, hvalid⟩ := exec_latch_of_ev_ne_valid hexec (decode_ne_reset_of_not_rst (hrst x rest hinputs)) hev
  have hparams := exec_params hexec
  exact ⟨hfrm, hvalid, congrArg₂ decodeFields hparams hfrm⟩

end Sys2Proof.Proofs

/-! The statements of 43_tick_nop.md: TICK and the timeout (R130, R131), NOP (R133), and the reserved command (R134). -/

namespace Sys2Proof.Machine

variable {is : List Instr} {es : List Event} {s s' t : State} {n : Nat}

-- ---------------------------------------------------------------- one TICK, by its cases (R130)

theorem tick_timeout (hst : s.st = .collect) (hT : s.params.set.gapT ≠ 0) (hgap : s.params.set.gapT ≤ s.gap.toNat + 1) :
    tick s = s.returnToHunt.emit .errFramingTimeout := by
  rw [tick, if_pos ⟨hst, hT⟩, if_pos hgap]

theorem tick_count (hst : s.st = .collect) (hgap : s.gap.toNat + 1 < s.params.set.gapT) :
    tick s = s.countTick.emit .none := by
  rw [tick, if_pos ⟨hst, by omega⟩, if_neg (by omega)]

theorem tick_idle (h : s.st = .hunt ∨ s.params.set.gapT = 0) : tick s = s.emit .none := by
  refine if_neg fun ⟨hst, hT⟩ => ?_
  obtain hhunt | h0 := h
  · simp [hst] at hhunt
  · exact hT h0

/-- Where a TICK counts, `GAP` is below `GAP_T`, which is at most 65535. -/
theorem gap_succ_toNat_of_lt_gapT (h : s.gap.toNat + 1 < s.params.set.gapT) : (s.gap + 1).toNat = s.gap.toNat + 1 := by
  have hT := s.params.gapT_cases
  exact gap_succ_toNat (by omega)

-- ---------------------------------------------------------------- no command reads the last event (R32)

theorem exec_emit (i : Instr) (e : Event) (s : State) : exec i (s.emit e) = exec i s := by
  cases i <;> rfl

theorem SameBlock.exec_eq (h : SameBlock s s') (i : Instr) : exec i s = exec i s' :=
  calc exec i s = exec i (s.emit .none) := (exec_emit i .none s).symm
    _ = exec i (s'.emit .none) := congrArg (exec i) h
    _ = exec i s' := exec_emit i .none s'

theorem SameBlock.trace_cons_eq (h : SameBlock s s') (i : Instr) (is : List Instr) :
    trace (i :: is) s = trace (i :: is) s' := by
  simp only [trace, h.exec_eq i]

-- ---------------------------------------------------------------- TICKs in a row (R130, R131)

/-- The state after `n` quiet TICKs in COLLECT, counted from `GAP = 0`. -/
def State.ticked (n : Nat) (s : State) : State := { s with gap := BitVec.ofNat 16 n, ev := .none }

theorem State.ticked_gap_toNat (h : n < s.params.set.gapT) : (s.ticked n).gap.toNat = n := by
  have hT := s.params.gapT_cases
  exact Nat.mod_eq_of_lt (by omega)

theorem State.sameBlock_ticked_zero (h : s.gap = 0) : SameBlock s (s.ticked 0) := by
  simp only [SameBlock, State.emit, State.ticked, h]
  rfl

theorem tick_ticked (hst : s.st = .collect) (h : n + 1 < s.params.set.gapT) : tick (s.ticked n) = s.ticked (n + 1) := by
  have hn : (s.ticked n).gap.toNat = n := State.ticked_gap_toNat (by omega)
  rw [tick_count (s := s.ticked n) hst (by rwa [hn])]
  simp only [State.ticked, BitVec.ofNat_add]
  rfl

theorem tick_ticked_last (hst : s.st = .collect) (h : s.params.set.gapT = n + 1) :
    tick (s.ticked n) = s.returnToHunt.emit .errFramingTimeout := by
  have hn : (s.ticked n).gap.toNat = n := State.ticked_gap_toNat (by omega)
  have hT : (s.ticked n).params.set.gapT = n + 1 := h
  exact tick_timeout (s := s.ticked n) hst (by omega) (by omega)

theorem trace_one_tick (h : tick s = t) : trace [.tick] s = some ([t.ev], t) := by
  subst h
  rfl

theorem trace_ticks_ticked (hst : s.st = .collect) (h : n < s.params.set.gapT) :
    trace (List.replicate n .tick) (s.ticked 0) = some (quiet n, s.ticked n) := by
  induction n with
  | zero => rfl
  | succ n ih =>
    rw [List.replicate_succ', ← quiet_append]
    exact trace_append (ih (by omega)) (trace_one_tick (tick_ticked hst h))

theorem trace_ticks_timeout (hst : s.st = .collect) (h : s.params.set.gapT = n + 1) :
    trace (List.replicate (n + 1) .tick) (s.ticked 0) =
      some (quiet n ++ [Event.errFramingTimeout], s.returnToHunt.emit .errFramingTimeout) := by
  rw [List.replicate_succ']
  exact trace_append (trace_ticks_ticked hst (by omega)) (trace_one_tick (tick_ticked_last hst h))

/-- From `GAP = 0`, what the last event was makes no difference to one or more TICKs. -/
theorem trace_ticks_eq_ticked (hgap : s.gap = 0) (hn : 1 ≤ n) :
    trace (List.replicate n .tick) s = trace (List.replicate n .tick) (s.ticked 0) := by
  obtain ⟨m, rfl⟩ := Nat.exists_eq_add_of_le' hn
  exact (State.sameBlock_ticked_zero hgap).trace_cons_eq .tick _

theorem trace_ticks_disabled (n : Nat) (hT : s.params.set.gapT = 0) :
    ∃ t, trace (List.replicate n .tick) s = some (quiet n, t) ∧ SameBlock s t := by
  induction n generalizing s with
  | zero => exact ⟨s, rfl, rfl⟩
  | succ n ih =>
    obtain ⟨t, htrace, hsame⟩ := ih (s := s.emit .none) hT
    refine ⟨t, ?_, hsame⟩
    rw [List.replicate_succ, trace_cons (exec_tick s), tick_idle (.inr hT), htrace]
    rfl

-- ---------------------------------------------------------------- a stream with and without its NOPs (R133)

/-- The stream without its NOPs may start from a state with another last event: its first command does not read it. -/
theorem trace_filter_ne_nop (h : trace is s = some (es, t)) (hs : SameBlock s s') :
    ∃ es' t', trace (is.filter (fun i => decide (i ≠ .nop))) s' = some (es', t') ∧ SameBlock t t' ∧
      es'.filter (fun e => decide (e ≠ .none)) = es.filter (fun e => decide (e ≠ .none)) := by
  induction is generalizing s s' es with
  | nil =>
    obtain ⟨rfl, rfl⟩ : [] = es ∧ s = t := by simpa using h
    exact ⟨[], s', rfl, hs, rfl⟩
  | cons i is ih =>
    obtain ⟨u, es', hu, htrace, rfl⟩ := trace_cons_cases h
    by_cases hi : i = .nop
    · subst hi
      obtain rfl : s.emit .none = u := by simpa using hu
      have hsame : SameBlock (s.emit .none) s' := hs
      exact (ih htrace hsame :)
    · obtain ⟨fs, t', hfs, ht, hfilter⟩ := ih htrace (s' := u) rfl
      refine ⟨u.ev :: fs, t', ?_, ht, ?_⟩
      · rw [List.filter_cons_of_pos (by simpa using hi), trace_cons ((hs.exec_eq i).symm.trans hu), hfs]
        rfl
      · simp only [List.filter_cons, hfilter]

-- ---------------------------------------------------------------- the reserved command's words (R61, R134)

theorem decodeCmd_eq_rsvd_of_le {w : CmdWord} (h : 768 ≤ w.toNat) : decodeCmd w = .rsvd := by
  have hop := opField_toNat w
  obtain ⟨h0, -⟩ | ⟨h1, -⟩ | ⟨h2, -⟩ | ⟨-, hd⟩ := decodeCmd_cases w
  · simp [h0] at hop; omega
  · simp [h1] at hop; omega
  · simp [h2] at hop; omega
  · exact hd

end Sys2Proof.Machine

-- ---------------------------------------------------------------- the obligations

namespace Sys2Proof.Proofs

open Sys2Proof.Machine

/-- Settles O24: every TICK below `GAP_T` counts from `GAP = 0`, and the one that reaches it times out. -/
theorem timeoutOnLastTick : Obligations.TimeoutOnLastTick := by
  intro s hst hgap hT
  refine ⟨fun n hn hlt => (trace_ticks_eq_ticked hgap hn).trans (trace_ticks_ticked hst hlt), ?_⟩
  obtain ⟨m, hm⟩ := Nat.exists_eq_add_of_le' (show 1 ≤ s.params.set.gapT by omega)
  rw [hm]
  exact (trace_ticks_eq_ticked hgap (Nat.le_add_left 1 m)).trans (trace_ticks_timeout hst hm)

/-- Settles O25, by induction on the number of TICKs. -/
theorem ticksDisabled : Obligations.TicksDisabled :=
  fun n _ => trace_ticks_disabled n

/-- Settles O27, by induction over the stream: a NOP changes the last event alone, which no command reads. -/
theorem nopsAreInvisible : Obligations.NopsAreInvisible :=
  fun _ _ _ _ h => trace_filter_ne_nop h rfl

/-- Settles O23: TICK case by case, the count within 16 bits since `GAP_T` is. -/
theorem tickCommand : Obligations.TickCommand := by
  intro s
  refine ⟨fun hst hT hgap => ?_, fun hst _ hgap => ⟨?_, gap_succ_toNat_of_lt_gapT hgap⟩, fun h => ?_⟩
  · rw [exec_tick, tick_timeout hst hT hgap]
    rfl
  · rw [exec_tick, tick_count hst hgap]
    rfl
  · rw [exec_tick, tick_idle h]
    rfl

/-- Settles O26: NOP is `emit NONE`. -/
theorem nopKeepsState : Obligations.NopKeepsState :=
  exec_nop

/-- Settles O28: a word from 768 on has `OP = 3`, and the command it selects is refused. -/
theorem reservedCommandRefused : Obligations.ReservedCommandRefused := by
  refine ⟨exec_rsvd, fun s cmd rest hcmd hinputs => ?_⟩
  rw [step_of_inputs_cons hinputs, decode_of_not_rst rfl, decodeCmd_eq_rsvd_of_le hcmd, exec_rsvd]

end Sys2Proof.Proofs

/-! The statements of 45_host_interface.md: the consumer's action on each event (R144, R145), one Dispatcher tick of a channel
(R142, R143), and what whole frames do to the consumer (R152). -/

namespace Sys2Proof.Machine

variable {i : Instr} {is : List Instr} {es : List Event} {e : Event} {s t : State} {c : Consumer} {ch ch' : Channel}
  {f : Frame} {n : Nat}

-- ---------------------------------------------------------------- what the consumer does with each event (R144)

theorem Consumer.act_of_none (h : s.ev = .none) (c : Consumer) : c.act s = c := by
  simp only [Consumer.act, h]

theorem Consumer.act_of_valid_default (h : s.ev = .valid) (hmode : (decodeFields s.params s.frm).mode = false)
    (c : Consumer) : c.act s = c.addReading (decodeFields s.params s.frm) := by
  simp [Consumer.act, h, hmode]

theorem Consumer.act_of_valid_settings (h : s.ev = .valid) (hmode : (decodeFields s.params s.frm).mode = true)
    (c : Consumer) : c.act s = c.takeSettings (decodeFields s.params s.frm) := by
  simp [Consumer.act, h, hmode]

theorem Consumer.act_of_errChecksum (h : s.ev = .errChecksum) (c : Consumer) : c.act s = c.countCommsError := by
  simp only [Consumer.act, h]

/-- Both framing errors count by `FRAMING_COUNTS` alone (R145). -/
theorem Consumer.act_of_errFraming (h : s.ev = .errFramingMarker ∨ s.ev = .errFramingTimeout) (c : Consumer) :
    c.act s = if s.params.set.framingCounts then c.countCommsError else c := by
  obtain h | h := h <;> simp only [Consumer.act, h]

-- ---------------------------------------------------------------- commands served one by one

theorem Channel.serve_cons (h : exec i ch.block = .next t) (is : List Instr) :
    Channel.serve (i :: is) ch = Channel.serve is { ch with block := t, consumer := ch.consumer.act t } := by
  simp only [Channel.serve, Channel.issue_of_next h]

theorem Channel.serve_append (h : Channel.serve is ch = .next ch') (js : List Instr) :
    Channel.serve (is ++ js) ch = Channel.serve js ch' := by
  induction is generalizing ch with
  | nil =>
    obtain rfl : ch = ch' := by simpa [Channel.serve] using h
    rfl
  | cons i is ih =>
    simp only [List.cons_append, Channel.serve] at h ⊢
    split at h
    next ch₁ _ => exact ih h
    next => simp at h
    next => simp at h

/-- Where a stream has a trace, serving it goes on: the block ends where the trace does and the Byte Source is as it was. -/
theorem Channel.serve_of_trace (h : trace is ch.block = some (es, t)) :
    ∃ c, Channel.serve is ch = .next { ch with block := t, consumer := c } := by
  induction is generalizing ch es with
  | nil =>
    obtain ⟨-, rfl⟩ : [] = es ∧ ch.block = t := by simpa using h
    exact ⟨ch.consumer, rfl⟩
  | cons i is ih =>
    obtain ⟨u, es', hu, htrace, -⟩ := trace_cons_cases h
    rw [Channel.serve_cons hu]
    exact (ih (ch := { ch with block := u, consumer := ch.consumer.act u }) htrace :)

theorem eq_nil_of_trace_eq_nil (h : trace is s = some ([], t)) : is = [] ∧ s = t := by
  cases is with
  | nil => simpa using h
  | cons i is =>
    obtain ⟨u, es', -, -, hes⟩ := trace_cons_cases h
    exact absurd hes (by simp)

/-- Serving a stream whose events before its last are all NONE is acting once, on the state it ends in (R144). -/
theorem Channel.serve_of_trace_quiet (h : trace is ch.block = some (quiet n ++ [e], t)) :
    Channel.serve is ch = .next { ch with block := t, consumer := ch.consumer.act t } := by
  induction is generalizing n ch with
  | nil => simp at h
  | cons i is ih =>
    obtain ⟨u, es', hu, htrace, hes⟩ := trace_cons_cases h
    rw [Channel.serve_cons hu]
    cases n with
    | zero =>
      obtain ⟨-, rfl⟩ : e = u.ev ∧ [] = es' := by simpa [quiet] using hes
      obtain ⟨rfl, rfl⟩ := eq_nil_of_trace_eq_nil htrace
      rfl
    | succ n =>
      obtain ⟨hev, rfl⟩ : Event.none = u.ev ∧ quiet n ++ [e] = es' := by
        simpa [quiet, List.replicate_succ] using hes
      rw [Consumer.act_of_none hev.symm]
      exact (ih (ch := { ch with block := u }) htrace :)

-- ---------------------------------------------------------------- the drain loop and the Dispatcher tick (R142, R143)

/-- The Byte Source once the host has read at most `n` bytes. -/
def ByteSource.drained (n : Nat) (b : ByteSource) : ByteSource := { b with pending := b.pending.drop n }

/-- The drain loop serves the FEEDs of the bytes it reads; no command sees the Byte Source. -/
theorem Channel.drain_eq_serve (n : Nat) (ch : Channel) :
    Channel.drain n ch =
      Channel.serve (feeds (ch.source.pending.take n)) { ch with source := ch.source.drained n } := by
  induction n generalizing ch with
  | zero => rfl
  | succ n ih =>
    obtain ⟨s, c, k, pending, ws⟩ := ch
    cases pending with
    | nil => rfl
    | cons b bs => exact ih ⟨feed b s, c.act (feed b s), k, bs, ws⟩

/-- A Dispatcher tick serves its commands: TICK leaves the Byte Source and the cap as they are. -/
theorem Channel.dispatcherTick_eq_serve (ch : Channel) :
    ch.dispatcherTick =
      Channel.serve (tickCommands ch.block.params.set.maxFeedsPerTick.toNat ch.source.pending)
        { ch with source := ch.source.drained ch.block.params.set.maxFeedsPerTick.toNat } := by
  rw [tickCommands, Channel.serve_cons (exec_tick _)]
  simp only [Channel.dispatcherTick, Channel.issue_of_next (exec_tick _), Channel.drain_eq_serve, tick_params]

theorem trace_feeds_some (bs : List Byte) (s : State) : ∃ r, trace (feeds bs) s = some r := by
  induction bs generalizing s with
  | nil => exact ⟨([], s), rfl⟩
  | cons b bs ih =>
    obtain ⟨r, hr⟩ := ih (feed b s)
    exact ⟨_, by rw [trace_feeds_cons, hr]; rfl⟩

theorem trace_tickCommands_some (n : Nat) (bs : List Byte) (s : State) :
    ∃ es t, trace (tickCommands n bs) s = some (es, t) := by
  obtain ⟨r, hr⟩ := trace_feeds_some (bs.take n) (tick s)
  exact ⟨_, _, by rw [tickCommands, trace_cons (exec_tick s), hr]; rfl⟩

-- ---------------------------------------------------------------- readings and whole frames (R152)

/-- The consumer with the readings of a list added, in order. -/
def Consumer.addReadings (ds : List Decoded) (c : Consumer) : Consumer := ds.foldl (fun c d => c.addReading d) c

theorem Consumer.addReadings_eq (ds : List Decoded) (c : Consumer) :
    c.addReadings ds = { c with
      totalRpm := c.totalRpm + (ds.map fun d => d.rpm.toNat).sum,
      totalMa := c.totalMa + (ds.map fun d => d.ma.toNat).sum,
      readingCount := c.readingCount + ds.length,
      errorStatus := ds.foldl (fun x d => x ||| d.err) c.errorStatus } := by
  induction ds generalizing c with
  | nil => rfl
  | cons d ds ih =>
    rw [Consumer.addReadings, List.foldl_cons, ← Consumer.addReadings, ih]
    simp [Consumer.addReading, Nat.add_assoc, Nat.add_comm 1]

/-- A frame that can be received, from HUNT, has the consumer act on its VALID alone. -/
theorem Channel.serve_wire_of_validated (hst : ch.block.st = .hunt) (hf : ValidatedFrame ch.block.params f) :
    Channel.serve (wire f) ch =
      .next { ch with block := ch.block.received f, consumer := ch.consumer.act (ch.block.received f) } :=
  Channel.serve_of_trace_quiet (trace_wire_of_validated hst hf)

/-- R152 (a): each default-mode frame of the stream adds its reading, and the block hunts again. -/
theorem Channel.serve_wires_of_validated {p : Params} {fs : List Frame} (hp : ch.block.params = p)
    (hst : ch.block.st = .hunt) (hfs : ∀ f ∈ fs, ValidatedFrame p f ∧ (decodeFields p f).mode = false) :
    ∃ t, t.st = .hunt ∧ Channel.serve (fs.flatMap wire) ch =
      .next { ch with block := t, consumer := ch.consumer.addReadings (fs.map (decodeFields p)) } := by
  induction fs generalizing ch with
  | nil => exact ⟨ch.block, hst, rfl⟩
  | cons f fs ih =>
    subst hp
    obtain ⟨⟨hf, hmode⟩, hrest⟩ := List.forall_mem_cons.mp hfs
    have hact := Consumer.act_of_valid_default (s := ch.block.received f) rfl hmode ch.consumer
    rw [List.flatMap_cons, Channel.serve_append (Channel.serve_wire_of_validated hst hf), hact]
    exact ih (ch := ⟨ch.block.received f, _, ch.source⟩) rfl rfl hrest

end Sys2Proof.Machine

-- ---------------------------------------------------------------- the obligations

namespace Sys2Proof.Proofs

open Sys2Proof.Machine

/-- Settles O56: the tick serves its commands, each of which runs, and only the drain loop touches the Byte Source. -/
theorem dispatcherTickFeeds : Obligations.DispatcherTickFeeds := by
  intro ch
  obtain ⟨es, t, htrace⟩ :=
    trace_tickCommands_some ch.block.params.set.maxFeedsPerTick.toNat ch.source.pending ch.block
  obtain ⟨c, hserve⟩ := Channel.serve_of_trace
    (ch := { ch with source := ch.source.drained ch.block.params.set.maxFeedsPerTick.toNat }) htrace
  exact ⟨_, es, (Channel.dispatcherTick_eq_serve ch).trans hserve, htrace, hserve, rfl, rfl⟩

/-- Settles O58: the readings of the stream, summed. -/
theorem goodFramesCountedOnce : Obligations.GoodFramesCountedOnce := by
  intro fs ch hst hfs
  obtain ⟨t, ht, hserve⟩ := Channel.serve_wires_of_validated rfl hst hfs
  refine ⟨_, hserve, ht, ?_⟩
  simp [Consumer.addReadings_eq, Function.comp_def]

/-- Settles O59: the frame's one VALID is in settings mode. -/
theorem settingsFrameOnlySnapshot : Obligations.SettingsFrameOnlySnapshot :=
  fun f ch hst hf hmode => ⟨_, Channel.serve_wire_of_validated hst hf,
    Consumer.act_of_valid_settings (s := ch.block.received f) rfl hmode ch.consumer⟩

/-- Settles O55: R144's table, row by row. -/
theorem consumerActions : Obligations.ConsumerActions := by
  refine ⟨fun i ch t => Channel.issue_of_next, fun s c => ⟨fun hev hmode => ?_, fun hev hmode => ?_, fun hev => ?_,
    fun hev => ⟨fun hcounts => ?_, fun hcounts => ?_⟩, fun hev => ?_⟩⟩
  · exact Consumer.act_of_valid_default hev hmode c
  · exact Consumer.act_of_valid_settings hev hmode c
  · exact Consumer.act_of_errChecksum hev c
  · rw [Consumer.act_of_errFraming hev, if_pos hcounts]
    rfl
  · rw [Consumer.act_of_errFraming hev, hcounts]
    rfl
  · exact Consumer.act_of_none hev c

end Sys2Proof.Proofs

/-! The statement of 60_exceptions.md: no command faults, and the reserved command alone has no next state (R160, R161). -/

namespace Sys2Proof.Machine

/-- Only a step with no input faults, and `exec` is given its command. -/
theorem exec_ne_fault (i : Instr) (s : State) (r : Fault) : exec i s ≠ .fault r := by
  cases i with
  | nop => simp
  | feed b => simp
  | tick => simp
  | rsvd => simp
  | reset => simp

theorem exists_exec_eq_next {i : Instr} (h : i ≠ .rsvd) (s : State) : ∃ t, exec i s = .next t := by
  cases i with
  | nop => exact ⟨_, exec_nop s⟩
  | feed b => exact ⟨_, exec_feed b s⟩
  | tick => exact ⟨_, exec_tick s⟩
  | rsvd => exact absurd rfl h
  | reset => exact ⟨_, exec_reset s⟩

end Sys2Proof.Machine

-- ---------------------------------------------------------------- the obligations

namespace Sys2Proof.Proofs

open Sys2Proof.Machine

/-- Settles O13: the equation of each command gives its outcome. -/
theorem everyCommandCompletes : Obligations.EveryCommandCompletes :=
  ⟨exec_ne_fault, fun _ s h => exists_exec_eq_next h s⟩

end Sys2Proof.Proofs

/-! The statements of 70_reset_and_hazards.md: what RESET leaves (R180) and the configuration, which nothing writes
(R184). -/

namespace Sys2Proof.Machine

variable {s t : State}

/-- Taking an input leaves the configuration, and so does the command it presents (R184). -/
theorem step_params (h : step s = .next t) : t.params = s.params := by
  obtain ⟨x, rest, -, hexec⟩ := step_next_cases h
  exact exec_params (s := { s with inputs := rest }) hexec

/-- RESET reaches the reset state of the configuration it finds, but for the unspecified `BUF` and what is no state of
the block: the inputs to come and the count of free values (R180). -/
theorem exec_reset_eq_resetWith (s : State) :
    exec .reset s = .next { State.resetWith s.params with
      buf := unspecifiedBuf s.freeCount, inputs := s.inputs, freeCount := s.freeCount + 1 } := rfl

end Sys2Proof.Machine

-- ---------------------------------------------------------------- the obligations

namespace Sys2Proof.Proofs

open Sys2Proof.Machine

/-- Settles O4: a step is a command on the state without the input it takes. -/
theorem parametersStatic : Obligations.ParametersStatic :=
  ⟨fun _ _ _ => exec_params, fun _ _ => step_params⟩

/-- Settles O2: from any state RESET reaches the reset state up to `BUF`, and the reset state has no inputs to come. -/
theorem resetCommand : Obligations.ResetCommand := by
  refine ⟨fun s => ⟨_, exec_reset_eq_resetWith s, ?_⟩, fun _ => decode_of_rst rfl,
    fun p => ⟨_, exec_reset_eq_resetWith (State.resetWith p), rfl⟩⟩
  simp [inSync, frmValidFlag]

end Sys2Proof.Proofs
